-- ==== Sys2Proof/Word.lean ====
section
/-!
DEFINITION. Bytes and words of the link and the array, and the two small fixed-size collections of the part: one value
for each of the eight lanes (or of a lane's eight spare lines), one value for each of the four session slots.
-/
namespace Sys2Proof

/-- One byte on a channel or of a line (00_scope.md, Numbers and units). -/
abbrev Byte := BitVec 8

/-- One word of a line: 32 bits (R1). -/
abbrev Word := BitVec 32

/-- A lane number, 0 to 7 (00_scope.md, Addresses and locations). -/
abbrev LaneId := Fin 8

/-- The number of a spare line of a lane, 0 to 7 (R7). -/
abbrev SpareId := Fin 8

/-- A session slot. Slot number n of the manual (1 to 4) is the value n - 1 (R96). -/
abbrev SlotId := Fin 4

/-- The slot's number as the manual and the messages write it, 1 to 4. -/
def slotNumber (k : SlotId) : Nat := k.val + 1

/-- The lanes in ascending number. -/
def allLanes : List LaneId := [0, 1, 2, 3, 4, 5, 6, 7]

/-- The slots in ascending number. -/
def allSlots : List SlotId := [0, 1, 2, 3]

/-- One value for each of eight like things: the lanes of the part, the spare lines of a lane. -/
structure Eight (α : Type) where
  i0 : α
  i1 : α
  i2 : α
  i3 : α
  i4 : α
  i5 : α
  i6 : α
  i7 : α
  deriving DecidableEq, Repr

/-- The value of one of the eight. -/
def Eight.get {α : Type} (v : Eight α) : Fin 8 → α
  | 0 => v.i0
  | 1 => v.i1
  | 2 => v.i2
  | 3 => v.i3
  | 4 => v.i4
  | 5 => v.i5
  | 6 => v.i6
  | 7 => v.i7

/-- The eight with one value replaced. -/
def Eight.set {α : Type} (v : Eight α) (i : Fin 8) (x : α) : Eight α :=
  match i with
  | 0 => { v with i0 := x }
  | 1 => { v with i1 := x }
  | 2 => { v with i2 := x }
  | 3 => { v with i3 := x }
  | 4 => { v with i4 := x }
  | 5 => { v with i5 := x }
  | 6 => { v with i6 := x }
  | 7 => { v with i7 := x }

/-- The same function on each of the eight. -/
def Eight.map {α β : Type} (f : α → β) (v : Eight α) : Eight β :=
  ⟨f v.i0, f v.i1, f v.i2, f v.i3, f v.i4, f v.i5, f v.i6, f v.i7⟩

/-- All eight equal. -/
def Eight.replicate {α : Type} (x : α) : Eight α := ⟨x, x, x, x, x, x, x, x⟩

/-- The eight values in ascending number. -/
def Eight.toList {α : Type} (v : Eight α) : List α :=
  [v.i0, v.i1, v.i2, v.i3, v.i4, v.i5, v.i6, v.i7]

/-- One value for each of the four session slots. -/
structure Four (α : Type) where
  i0 : α
  i1 : α
  i2 : α
  i3 : α
  deriving DecidableEq, Repr

/-- The value of one of the four. -/
def Four.get {α : Type} (v : Four α) : Fin 4 → α
  | 0 => v.i0
  | 1 => v.i1
  | 2 => v.i2
  | 3 => v.i3

/-- The four with one value replaced. -/
def Four.set {α : Type} (v : Four α) (i : Fin 4) (x : α) : Four α :=
  match i with
  | 0 => { v with i0 := x }
  | 1 => { v with i1 := x }
  | 2 => { v with i2 := x }
  | 3 => { v with i3 := x }

/-- The same function on each of the four. -/
def Four.map {α β : Type} (f : α → β) (v : Four α) : Four β :=
  ⟨f v.i0, f v.i1, f v.i2, f v.i3⟩

/-- All four equal. -/
def Four.replicate {α : Type} (x : α) : Four α := ⟨x, x, x, x⟩

/-- The four values in ascending number. -/
def Four.toList {α : Type} (v : Four α) : List α := [v.i0, v.i1, v.i2, v.i3]

end Sys2Proof
end

