-- ==== Sys2Proof/Syntax.lean ====
section
/-!
DEFINITION. The commands of the block: one constructor for each row of spec/opcode_table.json, with what the row's event
brings from outside the part.
-/
namespace Sys2Proof

/-- A physical location of a host-addressable line (00_scope.md, Addresses and locations). -/
structure Location where
  lane : LaneId
  page : Fin 16384
  line : Fin 32
  deriving DecidableEq, Repr, Inhabited

/-- A line of the array: a host-addressable line, or a spare line of a lane's spare row (R1, R7). -/
inductive ArrayLine where
  | host (location : Location)
  | spare (lane : LaneId) (index : SpareId)
  deriving DecidableEq, Repr, Inhabited

/-- The damage level of a line (R19). -/
inductive Damage where
  | intact
  | correctable
  | uncorrectable
  deriving DecidableEq, Repr, Inhabited

/-- The steps of the part, one constructor per row of spec/opcode_table.json.

* A down frame that passed its check carries the fields of its layout (R182). A frame that failed carries its raw bytes.
* The row of a request carries no operand: INT reads the request from the oldest frame of the intake (R114), and the
  step occurs only when that frame holds a message of the row's kind.
* The completion of a lane's operation names the lane. What the operation was stands in the lane's state.
* A temperature reading carries the die temperature in whole degrees. -/
inductive Instr where
  | downSequencedFrame (acknowledgement sequence : Byte) (message : List Byte)
  | downFrameCheckFailed (frame : List Byte)
  | ack (acknowledgement : Byte)
  | resend (acknowledgement n : Byte)
  | linkReset (acknowledgement : Byte)
  | fullReset (acknowledgement : Byte)
  | resetNFall
  | resetNRise
  | powerUp
  | supplyOutOfRange
  | read
  | write
  | merge
  | fence
  | openSession
  | closeSession
  | closeWithDiscard
  | setProfile
  | getProfile
  | rest
  | wake
  | getStatus
  | getStatusClearCounters
  | getTableSuspect
  | getTableRemap
  | forget
  | forgetAll
  | unknownKindMessage
  | pageOpenCompletion (lane : LaneId)
  | readPhaseCompletion (lane : LaneId)
  | writePhaseCompletion (lane : LaneId)
  | writeBackPhaseCompletion (lane : LaneId)
  | pageCloseCompletion (lane : LaneId)
  | restorationStepCompletion (lane : LaneId)
  | restorationTimerExpiry
  | temperatureReadingCompletion (dieTemperature : Int)
  | arrayInitializationCompletion
  | wakeCompletion
  | profileApplication
  | drainComplete
  | replayTimerExpiry
  | transmissionEnd
  | intReplyGrant
  | entryReplyGrant
  | closedReplyGrant
  | profileAppliedGrant
  | stcReplyGrant
  | noticeGrant
  | lineDegradation (line : ArrayLine) (level : Damage) (dieTemperature : Int)
  deriving DecidableEq, Repr

end Sys2Proof
end

