-- ==== Sys2Proof/Decode.lean ====
section
/-!
DEFINITION. The command that a word of the opcode table spells. No row of spec/opcode_table.json gives bits: the commands
of this block are events, not words.
-/
namespace Sys2Proof

/-- No word spells a command, since no row of the table gives bits. What arrives as bytes is decoded by
`Machine.receive` and `Machine.decodeMessage`. -/
def decodeTableWord (_nbits _w : Nat) : Option Instr := none

end Sys2Proof
end

