-- ==== Sys2Proof/Config.lean ====
section
/-!
DEFINITION. What the manual leaves open: values that no rule fixes, as constants without a body. Each is applied to a
draw number that State counts (State.draws), so that two occasions are unrelated.
-/
namespace Sys2Proof.Config

/-- Byte `address` of the array in a period in which its content is undefined: after power-up (R2), and in a line whose
WRITE or WRITE_BACK phase a full reset interrupted (R18). DESIGN CHOICE, log entry 5. -/
opaque undefinedByte (draw address : Nat) : Byte

/-- The damage level that the undefined check code of line `line` amounts to (R2, R18). DESIGN CHOICE,
log entry 5. -/
opaque undefinedDamage (draw line : Nat) : Damage

/-- Byte `index` of a line buffer after a READ phase that yielded LOST: "the buffer content is unusable" (R12).
DESIGN CHOICE, log entry 6. -/
opaque unusableByte (draw index : Nat) : Byte

/-- How many of the PROFILE APPLIED replies that stand last in the class 1 list a PROFILE STATE reply passes (R144).
DESIGN CHOICE, log entry 29. -/
opaque profileAppliedPassed (draw : Nat) : Nat

end Sys2Proof.Config
end

