-- ==== Sys2Proof/Machine/Records.lean ====
section
/-!
DEFINITION. The records that the blocks of the part hold, as data types: profiles, sessions, in-flight entries, lanes,
messages and frames. Codes and byte layouts are in Machine/Codec.lean.
-/
namespace Sys2Proof.Machine

/-! ## Lanes and the array -/

/-- The page a lane opens, holds or closes: a numbered page or the spare row (section 1.3, section 1.4). -/
inductive PageName where
  | page (number : Fin 16384)
  | spareRow
  deriving DecidableEq, Repr

/-- The phases of an access (section 1.4). -/
inductive Phase where
  | read
  | write
  | writeBack
  deriving DecidableEq, Repr

/-- What names an in-flight entry: its slot and its tag, which no other occupied entry shares (R20, R22). -/
structure EntryKey where
  slot : SlotId
  tag : Byte
  deriving DecidableEq, Repr

/-- The six states of a lane (R8). ACCESS carries the line its phase reaches, fixed when the phase begins (R11). -/
inductive LaneState where
  | closed
  | opening (page : PageName)
  | held (page : PageName)
  | access (page : PageName) (entry : EntryKey) (phase : Phase) (line : ArrayLine)
  | closing (page : PageName)
  | restoring
  deriving DecidableEq, Repr

/-- The state of a spare line (R89). -/
inductive SpareState where
  | free
  | inUse
  | retired
  deriving DecidableEq, Repr

/-- A record of a lane's remap table: the location (page, line) of the lane and the spare line that stands for it
(R90). -/
structure Remap where
  page : Fin 16384
  line : Fin 32
  spare : SpareId
  deriving DecidableEq, Repr

/-- Everything the part keeps per lane: the lane's state (R8), RST's debt, forced flag, restoration pointer and overrun
count (R62 to R70), ITG's remap table, spare states, exhausted flag, corrected and lost counts (R78 to R92). -/
structure Lane where
  state : LaneState
  debt : Int
  forced : Bool
  pointer : Fin 16384
  overruns : Nat
  remaps : List Remap
  spares : Eight SpareState
  exhausted : Bool
  corrected : Nat
  lost : Nat
  deriving DecidableEq, Repr

/-- A record of the suspect list (R82). -/
structure Suspect where
  location : Location
  spare : Option SpareId
  deriving DecidableEq, Repr

/-! ## Profiles -/

/-- The two maps from host line addresses to locations (section 1.2). -/
inductive AddressMap where
  | pageMajor
  | laneSpread
  deriving DecidableEq, Repr

/-- Page policy (R54). -/
inductive PagePolicy where
  | hold
  | release
  deriving DecidableEq, Repr

/-- Word order of read replies (R120). -/
inductive WordOrder where
  | sequential
  | interleaved
  deriving DecidableEq, Repr

/-- Hot restoration setting (R62). -/
inductive HotRestoration where
  | auto
  | alwaysDouble
  deriving DecidableEq, Repr

/-- The notice mask: one enable per notice kind (R131, field 10). -/
structure NoticeMask where
  tempBand : Bool
  suspectAdded : Bool
  suspectFull : Bool
  sparesExhausted : Bool
  restorationOverrun : Bool
  noticesLost : Bool
  deriving DecidableEq, Repr

/-- A profile record (R131). -/
structure Profile where
  label : BitVec 16
  map : AddressMap
  policy : PagePolicy
  wordOrder : WordOrder
  ageCap : Nat
  deferral : Nat
  hot : HotRestoration
  writeBack : Bool
  remapping : Bool
  mask : NoticeMask
  deriving DecidableEq, Repr

/-! ## Sessions -/

/-- Slot states (R96). -/
inductive SlotState where
  | free
  | opened
  | closing
  | detached
  deriving DecidableEq, Repr

/-- Reply order of a session (R31, R32). -/
inductive ReplyOrder where
  | ordered
  | free
  deriving DecidableEq, Repr

/-- A slot record (R96). Its entry count and its closed-reply-pending mark are not stored twice: the first is the number
of entries charged to the slot, the second is a CLOSED reply in the class 1 list. -/
structure Slot where
  state : SlotState
  window : Nat
  order : ReplyOrder
  discarded : Nat
  deriving DecidableEq, Repr

/-! ## In-flight entries -/

/-- How many words a read reply carries (R113). -/
inductive ReadLength where
  | full
  | short
  deriving DecidableEq, Repr

/-- What a request asks, with the fields the request supplied (R21). Lines travel as 64 bytes in byte order, a mask as
its 8 bytes (R183). -/
inductive EntryKind where
  | read (address : Nat) (start : Fin 16) (length : ReadLength)
  | write (address : Nat) (data : List Byte)
  | merge (address : Nat) (mask data : List Byte)
  | fence
  deriving DecidableEq, Repr

/-- Entry states (section 2.2). -/
inductive EntryState where
  | profileHeld
  | queued
  | active
  | fenceWait
  | replyWait
  deriving DecidableEq, Repr

/-- The outcome of a READ phase (R1). -/
inductive ReadOutcome where
  | clean
  | corrected
  | lost
  deriving DecidableEq, Repr

/-- The outcome of an entry, and the status of its reply (R29). -/
inductive Status where
  | ok
  | corrected
  | lost
  deriving DecidableEq, Repr

/-- An entry record (section 2.1). `found` keeps what the READ phase yielded until the array work ends (R29). -/
structure Entry where
  key : EntryKey
  kind : EntryKind
  location : Option Location
  buffer : Option (List Byte)
  state : EntryState
  passes : Nat
  found : Option ReadOutcome
  outcome : Option Status
  remapped : Bool
  orphan : Bool
  deriving DecidableEq, Repr

/-! ## Device state, temperature -/

/-- Device states (section 10). -/
inductive Device where
  | initializing
  | unconfigured
  | ready
  | resting
  | retained
  | waking
  deriving DecidableEq, Repr

/-- The temperature band (R73). -/
inductive Band where
  | cool
  | hot
  deriving DecidableEq, Repr

/-- A period of the restoration timer: 6.4 µs or 3.2 µs (R62). -/
inductive Period where
  | single
  | double
  deriving DecidableEq, Repr

/-- A reading interval: 1 ms or 8 ms (R72). -/
inductive Interval where
  | oneMs
  | eightMs
  deriving DecidableEq, Repr

/-! ## Messages and frames -/

/-- Reasons of a REFUSED reply (section 12.5). -/
inductive Reason where
  | notReady
  | notConfigured
  | resting
  | noSession
  | closing
  | windowFull
  | duplicateTag
  | badAddress
  | badField
  | badKind
  | badLength
  | noSlot
  | noCredit
  | profilePending
  | badProfile
  | already
  | notSuspect
  deriving DecidableEq, Repr

/-- The six notices (section 11.1). -/
inductive Notice where
  | tempBand (band : Band)
  | suspectAdded (location : Location)
  | suspectFull (location : Location)
  | sparesExhausted (lane : LaneId)
  | restorationOverrun (lane : LaneId)
  | noticesLost (count : Nat)
  deriving DecidableEq, Repr

/-- The six link counters (R162). -/
structure LinkCounters where
  crc : Nat
  duplicate : Nat
  reject : Nat
  ackRange : Nat
  resendIgnored : Nat
  replayExpiry : Nat
  deriving DecidableEq, Repr

/-- The lane states of a snapshot (R9). -/
inductive LaneCode where
  | closed
  | opening
  | held
  | access
  | closing
  | restoring
  deriving DecidableEq, Repr

/-- What a snapshot reports of a lane (R178), its counters included (R179). -/
structure LaneReport where
  code : LaneCode
  page : Option PageName
  queueLength : Nat
  debt : Int
  forced : Bool
  sparesFree : Nat
  sparesInUse : Nat
  sparesRetired : Nat
  corrected : Nat
  lost : Nat
  overruns : Nat
  deriving DecidableEq, Repr

/-- What a snapshot reports of a slot (R112). -/
structure SlotReport where
  state : SlotState
  window : Nat
  count : Nat
  order : ReplyOrder
  deriving DecidableEq, Repr

/-- The status snapshot (R178). -/
structure Snapshot where
  device : Device
  activeLabel : Option (BitVec 16)
  stagedLabel : Option (BitVec 16)
  band : Band
  lastReading : Option Int
  pool : Nat
  occupancy : Nat
  lanes : Eight LaneReport
  slots : Four SlotReport
  suspectOverflow : Nat
  link : LinkCounters
  deriving DecidableEq, Repr

/-- A reply or a notice (section 12.4). -/
inductive Message where
  | data (key : EntryKey) (status : Status) (start : Fin 16) (length : ReadLength) (words : List Word)
  | done (key : EntryKey) (status : Status) (remapped : Bool)
  | refused (slot tag : Byte) (reason : Reason) (field : Nat)
  | opened (slot : SlotId) (window : Nat)
  | closed (slot : SlotId) (discarded : Nat)
  | profileApplied (label : BitVec 16)
  | profileState (active staged : Option Profile)
  | rested
  | restCancelled
  | awake
  | status (snapshot : Snapshot)
  | suspectTable (records : List Suspect)
  | remapTable (lane : LaneId) (records : List Remap) (spares : Eight SpareState)
  | forgotten (count : Nat)
  | notice (n : Notice)
  deriving DecidableEq, Repr

/-- STC's own replies (R173). -/
inductive StcReply where
  | rested
  | restCancelled
  | awake
  deriving DecidableEq, Repr

/-- A reply of class 1 that waits for an outbound place, with the producer that waits: INT, SES, PRF or STC (R159). -/
inductive Waiting where
  | int (message : Message)
  | closed (slot : SlotId) (discarded : Nat)
  | profileApplied (label : BitVec 16)
  | stc (reply : StcReply)
  deriving DecidableEq, Repr

/-- REJECT reasons (R145). -/
inductive RejectReason where
  | crc
  | order
  | full
  deriving DecidableEq, Repr

/-- What an up frame holds (R145). -/
inductive UpContent where
  | credit
  | reject (reason : RejectReason)
  | message (sequence : Byte) (message : Message)
  deriving DecidableEq, Repr

/-- An up frame with the link fields it took at the beginning of its transmission (R146). -/
structure UpFrame where
  content : UpContent
  expected : Byte
  release : Byte
  deriving DecidableEq, Repr

/-- A frame of the replay list (R154). -/
structure Sent where
  sequence : Byte
  message : Message
  deriving DecidableEq, Repr

/-- Sender mode (R156). -/
inductive SenderMode where
  | running
  | stalled
  deriving DecidableEq, Repr

end Sys2Proof.Machine
end

