-- ==== Sys2Proof/Machine/State.lean ====
section
/-!
DEFINITION. The state of the part, block by block (00_scope.md, Block overview), the queue of commands that wait, the
reasons to stop, and the state after reset.
-/
namespace Sys2Proof.Machine

/-- Why a step can stop with a fault. -/
inductive Fault where
  /-- Raised by the completion of an access phase in a state whose lane is in ACCESS(p, e, ph) for an e that the in-flight
  table does not hold, or that has no location. R8's table says that e "is an occupied entry of the in-flight table", so
  such data is no state of the part and no run from reset reaches it (DEDUCED, log entry 17). Safe: the model stops
  where the part has no such state. -/
  | entryMissing
  deriving DecidableEq, Repr

/-- Why a step can be refused. -/
inductive Refusal where
  /-- Raised by `exec` for a command whose meaning is not written yet. No arm does so. Safe. -/
  | notModelled (mnemonic : String)
  deriving DecidableEq, Repr

/-- The two inputs that act outside the frames: the supplies within their ranges, and the RESET_N pin (R164, R165). -/
structure Pins where
  supplied : Bool
  resetN : Bool
  deriving DecidableEq, Repr

/-- The frame link LNK (chapter 9). -/
structure Link where
  expected : Byte
  episode : Bool
  intake : List (List Byte)
  release : Byte
  pendingReject : Option RejectReason
  pendingCredit : Bool
  transmission : Option UpFrame
  outbound : List Message
  replay : List Sent
  nextUp : Byte
  pointer : Option Byte
  timer : Bool
  stall : Nat
  mode : SenderMode
  counters : LinkCounters
  deriving DecidableEq, Repr

/-- The device-wide state of the restoration unit RST (chapter 4). Its per-lane state stands in `Lane`. -/
structure Restoration where
  timer : Option Period
  band : Band
  lastReading : Option Int
  interval : Option Interval
  deriving DecidableEq, Repr

/-- The device-wide state of the integrity unit ITG (chapter 5). Its per-lane state stands in `Lane`. -/
structure Integrity where
  suspects : List Suspect
  overflow : Nat
  deriving DecidableEq, Repr

/-- The profile unit PRF (chapter 8). `processing` is a SET PROFILE accepted in UNCONFIGURED that waits for the lanes and
remains under processing (R134). -/
structure Profiles where
  active : Option Profile
  staged : Option Profile
  processing : Option Profile
  deriving DecidableEq, Repr

/-- The state controller STC (R163). -/
structure Controller where
  device : Device
  initializing : Bool
  waking : Bool
  restOwed : Bool
  wakeOwed : Bool
  deriving DecidableEq, Repr

/-- The status and notice unit SNU (chapter 11). -/
structure Notices where
  queue : List Notice
  lost : Nat
  deriving DecidableEq, Repr

/-- The storage array. `cells` holds the bytes by array byte address (Machine/Ops.lean, `lineBase`), `damage` the
damage levels by line number (R19), both without the entries at the value that initialization leaves. `restoredAt` holds
the time at which each page or spare row was last restored, `elapsed` the time since initialization, in tenths of a
microsecond of nominal timer periods. `undefinedDraw` is the draw number of a period in which the whole content is
undefined (R2). -/
structure Storage where
  cells : List Host.Cell
  damage : List (Nat × Damage)
  restoredAt : List (Nat × Nat)
  elapsed : Nat
  undefinedDraw : Option Nat
  deriving DecidableEq, Repr

/-- The state of the part.

* `waiting` is the class 1 list of the outbound arbiter: the pending replies of INT, SES, PRF and STC, in order of
  production, "as one list across the four producers" (R159), but that a PROFILE STATE can stand before PROFILE APPLIED
  replies produced earlier (R144, log entry 29).
* `table` is the in-flight table in acceptance order (R20); `replies` is the reply list (R30).
* `draws` counts the free values drawn so far. It is the model's own (log entries 5, 6 and 29).
* `pending` is the queue of commands that wait, first in first out. It is the model's own. -/
structure State where
  pending : List Instr
  pins : Pins
  link : Link
  waiting : List Waiting
  slots : Four Slot
  table : List Entry
  replies : List EntryKey
  lanes : Eight Lane
  rst : Restoration
  itg : Integrity
  prf : Profiles
  stc : Controller
  snu : Notices
  array : Storage
  draws : Nat
  deriving DecidableEq, Repr

/-- A slot in its FREE state (R96). -/
def Slot.unused : Slot := { state := .free, window := 0, order := .free, discarded := 0 }

/-- The link counters at 0 (R162). -/
def LinkCounters.zero : LinkCounters :=
  { crc := 0, duplicate := 0, reject := 0, ackRange := 0, resendIgnored := 0, replayExpiry := 0 }

/-- The values of LNK after a link reset (the table of R160), with the link counters given. -/
def Link.afterReset (counters : LinkCounters) : Link :=
  { expected := 0, episode := false, intake := [], release := 0, pendingReject := none, pendingCredit := true,
    transmission := none, outbound := [], replay := [], nextUp := 0, pointer := none, timer := false, stall := 0,
    mode := .running, counters := counters }

/-- A lane after a full reset (R9, R76, R94). -/
def Lane.reset : Lane :=
  { state := .closed, debt := 0, forced := false, pointer := 0, overruns := 0, remaps := [],
    spares := Eight.replicate .free, exhausted := false, corrected := 0, lost := 0 }

/-- The state right after the full reset that a power-up with RESET_N high makes: the reset values of every block
(R164 and the rules it names), pending CREDIT set (R161), initialization and the first 1 ms reading interval begun
(R163, R72), the content of the array undefined (R2). DESIGN CHOICE for the pin and the model's own fields, log entries
13 and 16. -/
def State.reset : State :=
  { pending := []
    pins := { supplied := true, resetN := true }
    link := Link.afterReset LinkCounters.zero
    waiting := []
    slots := Four.replicate Slot.unused
    table := []
    replies := []
    lanes := Eight.replicate Lane.reset
    rst := { timer := none, band := .cool, lastReading := none, interval := some .oneMs }
    itg := { suspects := [], overflow := 0 }
    prf := { active := none, staged := none, processing := none }
    stc := { device := .initializing, initializing := true, waking := false, restOwed := false, wakeOwed := false }
    snu := { queue := [], lost := 0 }
    array := { cells := [], damage := [], restoredAt := [], elapsed := 0, undefinedDraw := some 0 }
    draws := 1 }

end Sys2Proof.Machine
end

