-- ==== Sys2Proof/Machine/Codec.lean ====
section
/-!
DEFINITION. The layouts of chapter 12: the check code, the frames of both channels, the request messages and their
decoding, the reply and notice messages.
-/
namespace Sys2Proof.Machine

/-- Byte `i` of a message or frame; 0 for a byte it does not hold. -/
def byteAt (m : List Byte) (i : Nat) : Byte := m.getD i 0

/-- A two-byte number at `i`, least significant byte first (R183). -/
def twoBytesAt (m : List Byte) (i : Nat) : Nat := (byteAt m i).toNat + 256 * (byteAt m (i + 1)).toNat

/-- A three-byte number at `i`, least significant byte first (R183). -/
def threeBytesAt (m : List Byte) (i : Nat) : Nat := twoBytesAt m i + 65536 * (byteAt m (i + 2)).toNat

/-- A number as one byte. -/
def oneByte (n : Nat) : Byte := BitVec.ofNat 8 n

/-- A number as two bytes, least significant first (R183). -/
def twoBytes (n : Nat) : List Byte := [oneByte n, oneByte (n / 256)]

/-- A number as three bytes, least significant first (R183). -/
def threeBytes (n : Nat) : List Byte := [oneByte n, oneByte (n / 256), oneByte (n / 65536)]

/-- A Bool as a number, for flags and for absent or present. -/
def bit (b : Bool) : Nat := if b then 1 else 0

/-! ## The check code (R185) -/

/-- One bit of the check code's division, generator 0x1021. -/
def crcBit (code : BitVec 16) (input : Bool) : BitVec 16 :=
  if code.msb != input then (code <<< 1) ^^^ 0x1021#16 else code <<< 1

/-- One byte of the division, most significant bit first. -/
def crcByte (code : BitVec 16) (b : Byte) : BitVec 16 :=
  [7, 6, 5, 4, 3, 2, 1, 0].foldl (fun c i => crcBit c (b.getLsbD i)) code

/-- The check code of a run of bytes: initial value 0xFFFF, no reflection, no final inversion. -/
def crc16 (bytes : List Byte) : BitVec 16 := bytes.foldl crcByte 0xFFFF#16

/-- The code as sent: most significant byte first. -/
def crcBytes (bytes : List Byte) : List Byte :=
  [(crc16 bytes).extractLsb' 8 8, (crc16 bytes).extractLsb' 0 8]

/-- A run of bytes with its check code behind it. -/
def sealed (bytes : List Byte) : List Byte := bytes ++ crcBytes bytes

/-- Whether a received frame passes its check: it has a code, and the code computed over the bytes before it equals it. -/
def passesCheck (frame : List Byte) : Bool :=
  decide (2 ≤ frame.length) &&
    decide (crcBytes (frame.take (frame.length - 2)) = frame.drop (frame.length - 2))

/-! ## Down frames (R147, R182) -/

/-- What the down receiver finds a frame to be. `failed link` is a frame discarded for its check, its shape or a class
code that names no class; `link` says whether its class byte names a down link frame (R147). -/
inductive Received where
  | sequenced (acknowledgement sequence : Byte) (message : List Byte)
  | ack (acknowledgement : Byte)
  | resend (acknowledgement n : Byte)
  | linkReset (acknowledgement : Byte)
  | fullReset (acknowledgement : Byte)
  | failed (link : Bool)
  deriving DecidableEq, Repr

/-- Whether a class byte names a down link frame: ACK, RESEND, LINK RESET or FULL RESET (section 12.1). -/
def namesLink (c : Byte) : Bool := c = 0x20#8 || c = 0x21#8 || c = 0x2E#8 || c = 0x2F#8

/-- The shape check of R182. -/
def goodShape (frame : List Byte) : Bool :=
  decide (6 ≤ frame.length) &&
    (byteAt frame 0 != 0x10#8 || frame.length == 6 + (byteAt frame 3).toNat) &&
    (!namesLink (byteAt frame 0) || (frame.length == 6 && byteAt frame 3 == 0#8))

/-- What a frame that passed the check and the shape check is, by its class code. -/
def classify (frame : List Byte) : Received :=
  let c := byteAt frame 0
  let k := byteAt frame 1
  if c = 0x10#8 then .sequenced k (byteAt frame 2) ((frame.drop 4).take (byteAt frame 3).toNat)
  else if c = 0x20#8 then .ack k
  else if c = 0x21#8 then .resend k (byteAt frame 2)
  else if c = 0x2E#8 then .linkReset k
  else if c = 0x2F#8 then .fullReset k
  else .failed false

/-- What the down receiver finds a run of bytes to be (R147, R182, R185). -/
def receive (frame : List Byte) : Received :=
  if passesCheck frame && goodShape frame then classify frame
  else .failed (decide (1 ≤ frame.length) && namesLink (byteAt frame 0))

/-- The row of the opcode table that the arrival of a run of bytes on the down channel is. -/
def arrival (frame : List Byte) : Instr :=
  match receive frame with
  | .sequenced k n m => .downSequencedFrame k n m
  | .ack k => .ack k
  | .resend k n => .resend k n
  | .linkReset k => .linkReset k
  | .fullReset k => .fullReset k
  | .failed _ => .downFrameCheckFailed frame

/-- The bytes of a down frame, as the host sends it (section 12.1). -/
def downFrame (r : Received) : List Byte :=
  match r with
  | .sequenced k n m => sealed (0x10#8 :: k :: n :: oneByte m.length :: m)
  | .ack k => sealed [0x20#8, k, 0#8, 0#8]
  | .resend k n => sealed [0x21#8, k, n, 0#8]
  | .linkReset k => sealed [0x2E#8, k, 0#8, 0#8]
  | .fullReset k => sealed [0x2F#8, k, 0#8, 0#8]
  | .failed _ => []

/-! ## Request messages (section 12.3) and their decoding (R184) -/

/-- A request message that decodes, with its fields as received. A field that carries a code outside its table is
judged by its owner (R183). -/
inductive Request where
  | read (slot tag : Byte) (address : Nat) (start length : Byte)
  | write (slot tag : Byte) (address : Nat) (data : List Byte)
  | merge (slot tag : Byte) (address : Nat) (mask data : List Byte)
  | fence (slot tag : Byte)
  | openSession (window order : Byte)
  | close (slot : Byte) (discard : Bool)
  | setProfile (record : List Byte)
  | getProfile
  | rest
  | wake
  | getStatus (clear : Bool)
  | getTable (code lane : Byte)
  | forget (lane : Byte) (page : Nat) (line : Byte)
  | forgetAll
  deriving DecidableEq, Repr

/-- The request kinds of section 12.3. -/
inductive RequestKind where
  | read
  | write
  | merge
  | fence
  | openSession
  | close
  | setProfile
  | getProfile
  | rest
  | wake
  | getStatus
  | getTable
  | forget
  deriving DecidableEq, Repr

/-- The kind that a code names, if any. -/
def requestKind (code : Byte) : Option RequestKind :=
  if code = 0x01#8 then some .read
  else if code = 0x02#8 then some .write
  else if code = 0x03#8 then some .merge
  else if code = 0x04#8 then some .fence
  else if code = 0x10#8 then some .openSession
  else if code = 0x11#8 then some .close
  else if code = 0x20#8 then some .setProfile
  else if code = 0x21#8 then some .getProfile
  else if code = 0x30#8 then some .rest
  else if code = 0x31#8 then some .wake
  else if code = 0x40#8 then some .getStatus
  else if code = 0x41#8 then some .getTable
  else if code = 0x42#8 then some .forget
  else none

/-- The code of a kind. -/
def RequestKind.code : RequestKind → Byte
  | .read => 0x01#8
  | .write => 0x02#8
  | .merge => 0x03#8
  | .fence => 0x04#8
  | .openSession => 0x10#8
  | .close => 0x11#8
  | .setProfile => 0x20#8
  | .getProfile => 0x21#8
  | .rest => 0x30#8
  | .wake => 0x31#8
  | .getStatus => 0x40#8
  | .getTable => 0x41#8
  | .forget => 0x42#8

/-- The length of a kind's messages. -/
def RequestKind.length : RequestKind → Nat
  | .read => 8
  | .write => 70
  | .merge => 78
  | .fence => 3
  | .openSession => 5
  | .close => 4
  | .setProfile => 14
  | .getProfile => 3
  | .rest => 3
  | .wake => 3
  | .getStatus => 4
  | .getTable => 5
  | .forget => 8

/-- Whether a flags byte has its reserved bits 1 to 7 clear (R183). -/
def goodFlags (b : Byte) : Bool := b = 0#8 || b = 1#8

/-- Whether every reserved byte and bit of a message of the kind's length is 0, and a FORGET scope is 0 or 1
(R184, test 3). -/
def reservedClear (k : RequestKind) (m : List Byte) : Bool :=
  let res12 := byteAt m 1 == 0#8 && byteAt m 2 == 0#8
  match k with
  | .read | .write | .merge | .fence => true
  | .openSession | .getProfile | .rest | .wake => res12
  | .close => byteAt m 2 == 0#8 && goodFlags (byteAt m 3)
  | .setProfile => res12 && (byteAt m 13).extractLsb' 6 2 == 0#2
  | .getStatus => res12 && goodFlags (byteAt m 3)
  | .getTable => res12 && (byteAt m 3 != 0#8 || byteAt m 4 == 0#8)
  | .forget =>
    res12 && goodFlags (byteAt m 3) &&
      (byteAt m 3 != 1#8 || (byteAt m 4 == 0#8 && byteAt m 5 == 0#8 && byteAt m 6 == 0#8 && byteAt m 7 == 0#8))

/-- The fields of a message of the kind, at the positions of section 12.3. -/
def readRequest (k : RequestKind) (m : List Byte) : Request :=
  match k with
  | .read => .read (byteAt m 1) (byteAt m 2) (threeBytesAt m 3) (byteAt m 6) (byteAt m 7)
  | .write => .write (byteAt m 1) (byteAt m 2) (threeBytesAt m 3) (m.drop 6)
  | .merge => .merge (byteAt m 1) (byteAt m 2) (threeBytesAt m 3) ((m.drop 6).take 8) (m.drop 14)
  | .fence => .fence (byteAt m 1) (byteAt m 2)
  | .openSession => .openSession (byteAt m 3) (byteAt m 4)
  | .close => .close (byteAt m 1) (byteAt m 3 == 1#8)
  | .setProfile => .setProfile (m.drop 3)
  | .getProfile => .getProfile
  | .rest => .rest
  | .wake => .wake
  | .getStatus => .getStatus (byteAt m 3 == 1#8)
  | .getTable => .getTable (byteAt m 3) (byteAt m 4)
  | .forget =>
    if byteAt m 3 = 1#8 then .forgetAll else .forget (byteAt m 4) (twoBytesAt m 5) (byteAt m 7)

/-- What INT's decoding makes of a message (R184). -/
inductive Decoded where
  | ok (request : Request)
  | bad (reason : Reason)
  deriving DecidableEq, Repr

/-- The three tests of R184, in order. -/
def decodeMessage (m : List Byte) : Decoded :=
  match m with
  | [] => .bad .badLength
  | code :: _ =>
    match requestKind code with
    | none => .bad .badKind
    | some k =>
      if m.length ≠ k.length then .bad .badLength
      else if reservedClear k m then .ok (readRequest k m)
      else .bad .badField

/-- The rows of the opcode table that stand for INT's taking of a message. -/
inductive RequestRow where
  | read
  | write
  | merge
  | fence
  | openSession
  | close
  | closeWithDiscard
  | setProfile
  | getProfile
  | rest
  | wake
  | getStatus
  | getStatusClearCounters
  | getTableSuspect
  | getTableRemap
  | forget
  | forgetAll
  | unknownKind
  deriving DecidableEq, Repr

/-- The row that INT's taking of a message is: by its kind byte and, where a kind has two rows, by its flag, table code
or scope. A malformed message goes with the row that its bytes name, and what becomes of it does not depend on the row.
DESIGN CHOICE, log entry 9. -/
def rowOf (m : List Byte) : RequestRow :=
  match m with
  | [] => .unknownKind
  | code :: _ =>
    match requestKind code with
    | none => .unknownKind
    | some .read => .read
    | some .write => .write
    | some .merge => .merge
    | some .fence => .fence
    | some .openSession => .openSession
    | some .close => if (byteAt m 3).getLsbD 0 then .closeWithDiscard else .close
    | some .setProfile => .setProfile
    | some .getProfile => .getProfile
    | some .rest => .rest
    | some .wake => .wake
    | some .getStatus => if (byteAt m 3).getLsbD 0 then .getStatusClearCounters else .getStatus
    | some .getTable => if byteAt m 3 = 1#8 then .getTableRemap else .getTableSuspect
    | some .forget => if byteAt m 3 = 1#8 then .forgetAll else .forget

/-- The bytes of a request, as the host lays them out (section 12.3). -/
def Request.bytes : Request → List Byte
  | .read slot tag a start len => [0x01#8, slot, tag] ++ threeBytes a ++ [start, len]
  | .write slot tag a data => [0x02#8, slot, tag] ++ threeBytes a ++ data
  | .merge slot tag a mask data => [0x03#8, slot, tag] ++ threeBytes a ++ mask ++ data
  | .fence slot tag => [0x04#8, slot, tag]
  | .openSession window order => [0x10#8, 0#8, 0#8, window, order]
  | .close slot discard => [0x11#8, slot, 0#8, oneByte (bit discard)]
  | .setProfile r => [0x20#8, 0#8, 0#8] ++ r
  | .getProfile => [0x21#8, 0#8, 0#8]
  | .rest => [0x30#8, 0#8, 0#8]
  | .wake => [0x31#8, 0#8, 0#8]
  | .getStatus clear => [0x40#8, 0#8, 0#8, oneByte (bit clear)]
  | .getTable code lane => [0x41#8, 0#8, 0#8, code, lane]
  | .forget lane page line => [0x42#8, 0#8, 0#8, 0#8, lane] ++ twoBytes page ++ [line]
  | .forgetAll => [0x42#8, 0#8, 0#8, 1#8, 0#8, 0#8, 0#8, 0#8]

/-- The requests that a message can carry: each field fits the place that section 12.3 gives it, and the bits that R184
tests are clear. -/
def Request.wellFormed : Request → Bool
  | .read _ _ a _ _ => decide (a < 16777216)
  | .write _ _ a data => decide (a < 16777216) && data.length == 64
  | .merge _ _ a mask data => decide (a < 16777216) && mask.length == 8 && data.length == 64
  | .setProfile r => r.length == 11 && (byteAt r 10).extractLsb' 6 2 == 0#2
  | .getTable code lane => code != 0#8 || lane == 0#8
  | .forget _ page _ => decide (page < 65536)
  | _ => true

/-! ## The profile record (R131, section 12.3) -/

/-- The number of the lowest-numbered bad field of a profile record, if any (R133, check 3). -/
def badProfileField (r : List Byte) : Option Nat :=
  if 1#8 < byteAt r 2 then some 2
  else if 1#8 < byteAt r 3 then some 3
  else if 1#8 < byteAt r 4 then some 4
  else if byteAt r 5 = 0#8 || 15#8 < byteAt r 5 then some 5
  else if byteAt r 6 = 0#8 || 6#8 < byteAt r 6 then some 6
  else if 1#8 < byteAt r 7 then some 7
  else if 1#8 < byteAt r 8 then some 8
  else if 1#8 < byteAt r 9 then some 9
  else if !(byteAt r 10).getLsbD 5 then some 10
  else none

/-- The profile that a record with no bad field carries. -/
def profileOf (r : List Byte) : Profile :=
  let m := byteAt r 10
  { label := BitVec.ofNat 16 (twoBytesAt r 0)
    map := if byteAt r 2 = 0#8 then .pageMajor else .laneSpread
    policy := if byteAt r 3 = 0#8 then .hold else .release
    wordOrder := if byteAt r 4 = 0#8 then .sequential else .interleaved
    ageCap := (byteAt r 5).toNat
    deferral := (byteAt r 6).toNat
    hot := if byteAt r 7 = 0#8 then .auto else .alwaysDouble
    writeBack := byteAt r 8 == 1#8
    remapping := byteAt r 9 == 1#8
    mask :=
      { tempBand := m.getLsbD 0, suspectAdded := m.getLsbD 1, suspectFull := m.getLsbD 2
        sparesExhausted := m.getLsbD 3, restorationOverrun := m.getLsbD 4, noticesLost := m.getLsbD 5 } }

/-- The byte of a notice mask. -/
def NoticeMask.byte (m : NoticeMask) : Byte :=
  oneByte (bit m.tempBand + 2 * bit m.suspectAdded + 4 * bit m.suspectFull + 8 * bit m.sparesExhausted +
    16 * bit m.restorationOverrun + 32 * bit m.noticesLost)

/-- The 11 bytes of a profile record. -/
def Profile.bytes (p : Profile) : List Byte :=
  twoBytes p.label.toNat ++
    [ (match p.map with | .pageMajor => 0#8 | .laneSpread => 1#8)
    , (match p.policy with | .hold => 0#8 | .release => 1#8)
    , (match p.wordOrder with | .sequential => 0#8 | .interleaved => 1#8)
    , oneByte p.ageCap
    , oneByte p.deferral
    , (match p.hot with | .auto => 0#8 | .alwaysDouble => 1#8)
    , oneByte (bit p.writeBack)
    , oneByte (bit p.remapping)
    , p.mask.byte ]

/-- The profiles that SET PROFILE can carry: every field within the range of R131. -/
def Profile.wellFormed (p : Profile) : Bool :=
  decide (1 ≤ p.ageCap) && decide (p.ageCap ≤ 15) && decide (1 ≤ p.deferral) && decide (p.deferral ≤ 6) &&
    p.mask.noticesLost

/-! ## Codes (section 12.5) -/

/-- The code of a status (section 12.5). -/
def Status.code : Status → Byte
  | .ok => 0#8
  | .corrected => 1#8
  | .lost => 2#8

/-- The code of a read length (section 12.5). -/
def ReadLength.code : ReadLength → Byte
  | .full => 0#8
  | .short => 1#8

/-- The length that a length code names. -/
def readLengthOf (b : Byte) : Option ReadLength :=
  if b = 0#8 then some .full else if b = 1#8 then some .short else none

/-- The code of a reply order (section 12.5). -/
def ReplyOrder.code : ReplyOrder → Byte
  | .ordered => 0#8
  | .free => 1#8

/-- The reply order that a code names. -/
def replyOrderOf (b : Byte) : Option ReplyOrder :=
  if b = 0#8 then some .ordered else if b = 1#8 then some .free else none

/-- The code of a device state (section 12.5). -/
def Device.code : Device → Byte
  | .initializing => 0#8
  | .unconfigured => 1#8
  | .ready => 2#8
  | .resting => 3#8
  | .retained => 4#8
  | .waking => 5#8

/-- The code of a lane state (section 12.5). -/
def LaneCode.code : LaneCode → Byte
  | .closed => 0#8
  | .opening => 1#8
  | .held => 2#8
  | .access => 3#8
  | .closing => 4#8
  | .restoring => 5#8

/-- The code of a slot state (section 12.5). -/
def SlotState.code : SlotState → Byte
  | .free => 0#8
  | .opened => 1#8
  | .closing => 2#8
  | .detached => 3#8

/-- The code of a spare state (section 12.5). -/
def SpareState.code : SpareState → Byte
  | .free => 0#8
  | .inUse => 1#8
  | .retired => 2#8

/-- The code of a band (section 12.5). -/
def Band.code : Band → Byte
  | .cool => 0#8
  | .hot => 1#8

/-- The code of a refusal reason (section 12.5). -/
def Reason.code : Reason → Byte
  | .notReady => 1#8
  | .notConfigured => 2#8
  | .resting => 3#8
  | .noSession => 4#8
  | .closing => 5#8
  | .windowFull => 6#8
  | .duplicateTag => 7#8
  | .badAddress => 8#8
  | .badField => 9#8
  | .badKind => 10#8
  | .badLength => 11#8
  | .noSlot => 12#8
  | .noCredit => 13#8
  | .profilePending => 14#8
  | .badProfile => 15#8
  | .already => 16#8
  | .notSuspect => 17#8

/-- The code of a REJECT reason (R182, section 12.1). -/
def RejectReason.code : RejectReason → Byte
  | .crc => 1#8
  | .order => 2#8
  | .full => 3#8

/-! ## Reply and notice messages (section 12.4) -/

/-- A word as its four bytes, the least significant first (R183). -/
def wordBytes (w : Word) : List Byte :=
  [w.extractLsb' 0 8, w.extractLsb' 8 8, w.extractLsb' 16 8, w.extractLsb' 24 8]

/-- A page as the messages carry it: its number, or 0xFFFF for the spare row; 0 where there is none (R183). -/
def pageBytes : Option PageName → List Byte
  | none => twoBytes 0
  | some (.page p) => twoBytes p.val
  | some .spareRow => twoBytes 0xFFFF

/-- Lane, page and line of a location. -/
def locationBytes (l : Location) : List Byte := [oneByte l.lane.val] ++ twoBytes l.page.val ++ [oneByte l.line.val]

/-- Notice kind and payload, bytes 3 to 7 of a NOTICE message. -/
def Notice.bytes : Notice → List Byte
  | .tempBand b => [1#8, b.code, 0#8, 0#8, 0#8]
  | .suspectAdded l => 2#8 :: locationBytes l
  | .suspectFull l => 3#8 :: locationBytes l
  | .sparesExhausted a => [4#8, oneByte a.val, 0#8, 0#8, 0#8]
  | .restorationOverrun a => [5#8, oneByte a.val, 0#8, 0#8, 0#8]
  | .noticesLost n => [6#8, oneByte n, 0#8, 0#8, 0#8]

/-- A lane's 9 bytes of a STATUS message. -/
def LaneReport.stateBytes (r : LaneReport) : List Byte :=
  [r.code.code] ++ pageBytes r.page ++
    [ oneByte r.queueLength, BitVec.ofInt 8 r.debt, oneByte (bit r.forced), oneByte r.sparesFree
    , oneByte r.sparesInUse, oneByte r.sparesRetired ]

/-- A lane's 6 counter bytes of a STATUS message. -/
def LaneReport.counterBytes (r : LaneReport) : List Byte :=
  twoBytes r.corrected ++ twoBytes r.lost ++ twoBytes r.overruns

/-- A slot's 4 bytes of a STATUS message. -/
def SlotReport.bytes (r : SlotReport) : List Byte :=
  [r.state.code, oneByte r.window, oneByte r.count, r.order.code]

/-- A label, or 0 for the label of an absent profile (R183). -/
def labelBytes (l : Option (BitVec 16)) : List Byte := twoBytes ((l.getD 0#16).toNat)

/-- Bytes 3 to 163 of a STATUS message. -/
def Snapshot.bytes (s : Snapshot) : List Byte :=
  [s.device.code, oneByte (bit s.activeLabel.isSome + bit (s.activeLabel.isSome && s.stagedLabel.isSome))] ++
    labelBytes s.activeLabel ++ labelBytes s.stagedLabel ++
    [ s.band.code, oneByte (bit s.lastReading.isSome), BitVec.ofInt 8 (s.lastReading.getD 0), oneByte s.pool
    , oneByte s.occupancy ] ++
    s.lanes.toList.flatMap LaneReport.stateBytes ++
    s.slots.toList.flatMap SlotReport.bytes ++
    s.lanes.toList.flatMap LaneReport.counterBytes ++
    twoBytes s.suspectOverflow ++ twoBytes s.link.crc ++ twoBytes s.link.duplicate ++ twoBytes s.link.reject ++
    twoBytes s.link.ackRange ++ twoBytes s.link.resendIgnored ++ twoBytes s.link.replayExpiry

/-- The record of a profile, or 11 zero bytes for an absent one (R183). -/
def profileBytes : Option Profile → List Byte
  | none => List.replicate 11 0#8
  | some p => p.bytes

/-- A suspect record: lane, page, line, and the spare index or 0xFF. -/
def Suspect.bytes (r : Suspect) : List Byte :=
  locationBytes r.location ++ [match r.spare with | none => 0xFF#8 | some i => oneByte i.val]

/-- A remap record: page, line and spare index. -/
def Remap.bytes (r : Remap) : List Byte := twoBytes r.page.val ++ [oneByte r.line.val, oneByte r.spare.val]

/-- The slot byte of a message that names a slot. -/
def slotByte (k : SlotId) : Byte := oneByte (slotNumber k)

/-- The bytes of a reply or notice (section 12.4). -/
def Message.bytes : Message → List Byte
  | .data key result start length words =>
    [0x81#8, slotByte key.slot, key.tag, result.code, oneByte start.val, length.code] ++ words.flatMap wordBytes
  | .done key result remapped =>
    [0x82#8, slotByte key.slot, key.tag, result.code, oneByte (bit remapped)]
  | .refused slot tag reason field => [0x83#8, slot, tag, reason.code, oneByte field]
  | .opened slot window => [0x90#8, slotByte slot, 0#8, oneByte window]
  | .closed slot discarded => [0x91#8, slotByte slot, 0#8, oneByte discarded]
  | .profileApplied label => [0xA0#8, 0#8, 0#8] ++ twoBytes label.toNat
  | .profileState active staged =>
    [0xA1#8, 0#8, 0#8, oneByte (bit active.isSome + 2 * bit staged.isSome)] ++ profileBytes active ++ profileBytes staged
  | .rested => [0xB0#8, 0#8, 0#8]
  | .restCancelled => [0xB1#8, 0#8, 0#8]
  | .awake => [0xB2#8, 0#8, 0#8]
  | .status snapshot => [0xC0#8, 0#8, 0#8] ++ snapshot.bytes
  | .suspectTable records => [0xC1#8, 0#8, 0#8, oneByte records.length] ++ records.flatMap Suspect.bytes
  | .remapTable lane records spares =>
    [0xC2#8, 0#8, 0#8, oneByte lane.val, oneByte records.length] ++ spares.toList.map SpareState.code ++
      records.flatMap Remap.bytes
  | .forgotten count => [0xC3#8, 0#8, 0#8, oneByte count]
  | .notice n => [0xE0#8, 0#8, 0#8] ++ n.bytes

/-! ## Up frames (R146, R182) -/

/-- The bytes of an up frame, its check code behind them (section 12.1). -/
def UpFrame.bytes (f : UpFrame) : List Byte :=
  match f.content with
  | .credit => sealed [0x60#8, f.expected, f.release, 0#8, 0#8]
  | .reject r => sealed [0x61#8, f.expected, f.release, r.code, 0#8]
  | .message n m => sealed ([0x50#8, f.expected, f.release, n, oneByte m.bytes.length] ++ m.bytes)

end Sys2Proof.Machine
end

