-- ==== Sys2Proof/Machine/Sparse.lean ====
section
/-!
DEFINITION. Sparse tables in one canonical form: a list of (key, value) pairs with strictly rising keys and no entry at
the value that an unlisted key has. The bytes of the array, the damage levels and the restoration times are kept so.
-/
namespace Sys2Proof.Machine.Sparse

variable {α : Type} [DecidableEq α]

/-- The value at `k`; `d` where the table lists none. -/
def get (d : α) : List (Nat × α) → Nat → α
  | [], _ => d
  | (k', v) :: m, k => if k = k' then v else get d m k

/-- The table with value `v` at `k`, in canonical form. -/
def put (d : α) : List (Nat × α) → Nat → α → List (Nat × α)
  | [], k, v => if v = d then [] else [(k, v)]
  | (k', v') :: m, k, v =>
    if k < k' then (if v = d then (k', v') :: m else (k, v) :: (k', v') :: m)
    else if k = k' then (if v = d then m else (k, v) :: m)
    else (k', v') :: put d m k v

/-- Every key of the table is at least `lo`, the keys rise strictly, and no entry is at the value `d`. -/
def wfFrom (d : α) : Nat → List (Nat × α) → Bool
  | _, [] => true
  | lo, (k, v) :: m => decide (lo ≤ k) && decide (v ≠ d) && wfFrom d (k + 1) m

/-- The canonical form. -/
def wf (d : α) (m : List (Nat × α)) : Bool := wfFrom d 0 m

end Sys2Proof.Machine.Sparse
end

