-- ==== Sys2Proof/Machine/Ops.lean ====
section
/-!
DEFINITION. The named operations that the meanings share: reading the settings in force, the array, lanes and slots,
posting notices, producing replies, and the departure of a frame from the intake.
-/
namespace Sys2Proof.Machine

/-- A count that rises by one and stays at 65,535 (R64, R81, R83, R162, R179). -/
def bump (n : Nat) : Nat := if n < 65535 then n + 1 else n

/-- The part takes frames and sends them: both supplies are in range and RESET_N is high (R161, R164, R165). -/
def State.running (s : State) : Bool := s.pins.supplied && s.pins.resetN

/-! ## Settings in force (R131, R132) -/

/-- The deferral limit D in force: that of the active profile, or 6 before the first (R132). -/
def State.deferral (s : State) : Nat := (s.prf.active.map (·.deferral)).getD 6

/-- The hot restoration setting in force (R132). -/
def State.hot (s : State) : HotRestoration := (s.prf.active.map (·.hot)).getD .auto

/-- Whether correction write-back is ON in the active profile (R12). -/
def State.writeBackOn (s : State) : Bool := s.prf.active.any (·.writeBack)

/-- Whether automatic remapping is ON in the active profile (R46, R91). -/
def State.remappingOn (s : State) : Bool := s.prf.active.any (·.remapping)

/-- Whether the page policy of the active profile is RELEASE (R54). -/
def State.releasePolicy (s : State) : Bool := s.prf.active.any (fun p => p.policy == .release)

/-- Whether a pass count has reached the age cap of the active profile (R51). -/
def State.atAgeCap (s : State) (passes : Nat) : Bool := s.prf.active.any (fun p => decide (p.ageCap ≤ passes))

/-- The word order of the active profile (R120). An entry with a reply exists only once a profile is active, so the
value for no profile stands for nothing (DESIGN CHOICE, log entry 22). -/
def State.wordOrder (s : State) : WordOrder := (s.prf.active.map (·.wordOrder)).getD .sequential

/-- Whether a mask enables a notice's kind. -/
def NoticeMask.enables (m : NoticeMask) : Notice → Bool
  | .tempBand _ => m.tempBand
  | .suspectAdded _ => m.suspectAdded
  | .suspectFull _ => m.suspectFull
  | .sparesExhausted _ => m.sparesExhausted
  | .restorationOverrun _ => m.restorationOverrun
  | .noticesLost _ => m.noticesLost

/-- Whether the mask in force enables a notice's kind: every kind before the first profile (R132, R175). -/
def State.noticeEnabled (s : State) (n : Notice) : Bool := s.prf.active.all (fun p => p.mask.enables n)

/-! ## Address maps (R3, R4) -/

/-- The location that host line address `a` names under a map: R3 for PAGE_MAJOR, R4 for LANE_SPREAD. -/
def locate (m : AddressMap) (a : Nat) : Location :=
  match m with
  | .pageMajor =>
    { lane := Fin.ofNat 8 (a / 524288), page := Fin.ofNat 16384 (a % 524288 / 32), line := Fin.ofNat 32 (a % 32) }
  | .laneSpread =>
    { lane := Fin.ofNat 8 (a / 32 % 8), page := Fin.ofNat 16384 (a / 256), line := Fin.ofNat 32 (a % 32) }

/-- The host line address that names a location under a map, R3 and R4 "in the other direction". -/
def addressOf (m : AddressMap) (l : Location) : Nat :=
  match m with
  | .pageMajor => l.lane.val * 524288 + l.page.val * 32 + l.line.val
  | .laneSpread => l.page.val * 256 + l.lane.val * 32 + l.line.val

/-! ## The array (R1, R2, R19) -/

/-- The number of a line: the host-addressable lines by lane, page and line, then the spare lines by lane and index. -/
def lineNumber : ArrayLine → Nat
  | .host l => (l.lane.val * 16384 + l.page.val) * 32 + l.line.val
  | .spare a i => 4194304 + a.val * 8 + i.val

/-- The array byte address of byte 0 of a line. -/
def lineBase (l : ArrayLine) : Nat := 64 * lineNumber l

/-- The number of a page for the restoration times: the pages of a lane, then its spare row. -/
def pageKey (a : LaneId) : PageName → Nat
  | .page p => a.val * 16385 + p.val
  | .spareRow => a.val * 16385 + 16384

/-- The page that a line lies in. -/
def linePage : ArrayLine → LaneId × PageName
  | .host l => (l.lane, .page l.page)
  | .spare a _ => (a, .spareRow)

/-- One byte of the array by array byte address. A byte that nothing lists is 0, as initialization leaves it (R2). In a
period in which the content is undefined it is a free value. -/
def Storage.byte (m : Storage) (address : Nat) : Byte :=
  match m.undefinedDraw with
  | none => Sparse.get 0#8 m.cells address
  | some d => Config.undefinedByte d address

/-- The 64 bytes of a line, as it was last written. -/
def Storage.line (m : Storage) (l : ArrayLine) : List Byte :=
  (List.range 64).map (fun i => m.byte (lineBase l + i))

/-- The damage level of a line (R19). -/
def Storage.level (m : Storage) (l : ArrayLine) : Damage :=
  match m.undefinedDraw with
  | none => Sparse.get .intact m.damage (lineNumber l)
  | some d => Config.undefinedDamage d (lineNumber l)

/-- Consecutive bytes put from an array byte address on. -/
def putBytes (cells : List Host.Cell) (address : Nat) : List Byte → List Host.Cell
  | [] => cells
  | b :: bs => putBytes (Sparse.put 0#8 cells address b) (address + 1) bs

/-- A line written whole with a fresh check code: its level becomes none (R1, R19). -/
def Storage.write (m : Storage) (l : ArrayLine) (bytes : List Byte) : Storage :=
  { m with
    cells := putBytes m.cells (lineBase l) (bytes.take 64)
    damage := Sparse.put .intact m.damage (lineNumber l) .intact }

/-- A line left with undefined content and check code by an interrupted write (R18): free values. -/
def Storage.spoil (m : Storage) (l : ArrayLine) (draw : Nat) : Storage :=
  { m with
    cells := putBytes m.cells (lineBase l) ((List.range 64).map (fun i => Config.undefinedByte draw (lineBase l + i)))
    damage := Sparse.put .intact m.damage (lineNumber l) (Config.undefinedDamage draw (lineNumber l)) }

/-- The time at which a page of a lane was last restored. -/
def Storage.restoredTime (m : Storage) (a : LaneId) (p : PageName) : Nat := Sparse.get 0 m.restoredAt (pageKey a p)

/-- A page of a lane restored now (R16). -/
def Storage.restore (m : Storage) (a : LaneId) (p : PageName) : Storage :=
  { m with restoredAt := Sparse.put 0 m.restoredAt (pageKey a p) m.elapsed }

/-- The array as initialization leaves it: every line zero with a valid check code, every page restored (R2, R19). -/
def Storage.initialized : Storage :=
  { cells := [], damage := [], restoredAt := [], elapsed := 0, undefinedDraw := none }

/-- Word `w` of a line: bytes 4w to 4w + 3, the first the least significant (R1). -/
def lineWord (bytes : List Byte) (w : Nat) : Word :=
  byteAt bytes (4 * w + 3) ++ byteAt bytes (4 * w + 2) ++ byteAt bytes (4 * w + 1) ++ byteAt bytes (4 * w)

/-- Enable b of a mask: bit i of mask byte j is the enable of line byte 8j + i (R183). -/
def maskEnable (mask : List Byte) (b : Nat) : Bool := (byteAt mask (b / 8)).getLsbD (b % 8)

/-- The line a MERGE writes: carried bytes where the enable is set, kept bytes where it is clear (R13). -/
def mergeBytes (mask data kept : List Byte) : List Byte :=
  (List.range 64).map (fun b => if maskEnable mask b then byteAt data b else byteAt kept b)

/-! ## Lanes and slots -/

/-- The record of a lane. -/
def State.lane (s : State) (a : LaneId) : Lane := s.lanes.get a

/-- The state with a lane's record replaced. -/
def State.setLane (s : State) (a : LaneId) (l : Lane) : State := { s with lanes := s.lanes.set a l }

/-- The state with a lane in another lane state. -/
def State.setLaneState (s : State) (a : LaneId) (st : LaneState) : State := s.setLane a { s.lane a with state := st }

/-- Whether a lane is idle: CLOSED or HELD (R8). -/
def LaneState.idle : LaneState → Bool
  | .closed => true
  | .held _ => true
  | _ => false

/-- Every lane is CLOSED. A lane that is CLOSED has stayed at its last decision, since a decision in CLOSED that does not
stay begins an operation (R48; DEDUCED, log entry 12). -/
def State.lanesClosed (s : State) : Bool := allLanes.all (fun a => (s.lane a).state == .closed)

/-- The record of a slot. -/
def State.slot (s : State) (k : SlotId) : Slot := s.slots.get k

/-- The state with a slot's record replaced. -/
def State.setSlot (s : State) (k : SlotId) (r : Slot) : State := { s with slots := s.slots.set k r }

/-- The slot that a slot number in a request names: 1 to 4 only (R113). -/
def slotOf (b : Byte) : Option SlotId :=
  if b = 1#8 then some 0 else if b = 2#8 then some 1 else if b = 3#8 then some 2 else if b = 4#8 then some 3 else none

/-- The credit pool: 48 minus the sum of the windows of the slots that are not FREE (R97). -/
def State.pool (s : State) : Nat :=
  48 - (allSlots.map (fun k => if (s.slot k).state = .free then 0 else (s.slot k).window)).sum

/-! ## Notices (R175) -/

/-- A notice posted: not queued when masked, else queued when the queue holds fewer than 8, else dropped and counted
(R175). -/
def postNotice (n : Notice) (s : State) : State :=
  if s.noticeEnabled n then
    if s.snu.queue.length < 8 then { s with snu := { s.snu with queue := s.snu.queue ++ [n] } }
    else { s with snu := { s.snu with lost := if s.snu.lost < 255 then s.snu.lost + 1 else s.snu.lost } }
  else s

/-! ## Replies of class 1 and the intake -/

/-- A reply produced: it joins the class 1 list at its tail (R159). PROFILE STATE alone can join before it
(produceProfileState). -/
def produce (w : Waiting) (s : State) : State := { s with waiting := s.waiting ++ [w] }

/-- Whether a class 1 reply is PRF's. -/
def Waiting.ofPrf : Waiting → Bool
  | .profileApplied _ => true
  | _ => false

/-- The number of PROFILE APPLIED replies that stand last in the class 1 list. -/
def State.appliedLast (s : State) : Nat := (s.waiting.reverse.takeWhile Waiting.ofPrf).length

/-- PROFILE STATE produced, INT's pending reply. It "can enter the outbound queue before the PROFILE APPLIED of an
application that has already taken place, because the two wait in the same class" (R144): how many of the PROFILE APPLIED
replies last in the list it passes is a free value. It passes no other reply, so the list keeps its order of production
but for this (R159, R173). DESIGN CHOICE, log entry 29. -/
def produceProfileState (s : State) : State :=
  let w : Waiting := .int (.profileState s.prf.active s.prf.staged)
  if s.appliedLast = 0 then produce w s
  else
    let ahead := s.waiting.length - min s.appliedLast (Config.profileAppliedPassed s.draws)
    { s with waiting := s.waiting.take ahead ++ w :: s.waiting.drop ahead, draws := s.draws + 1 }

/-- INT's pending reply produced (R114). -/
def reply (m : Message) (s : State) : State := produce (.int m) s

/-- A REFUSED reply, INT's pending reply (R117). -/
def refuse (slot tag : Byte) (reason : Reason) (s : State) : State := reply (.refused slot tag reason 0) s

/-- Whether a class 1 reply is INT's. -/
def Waiting.ofInt : Waiting → Bool
  | .int _ => true
  | _ => false

/-- Whether a frame is under processing: INT has a pending reply (R114), or a SET PROFILE waits for its application in
UNCONFIGURED (R134). -/
def State.intBusy (s : State) : Bool := s.waiting.any Waiting.ofInt || s.prf.processing.isSome

/-- A message placed at the tail of the outbound queue (R158). -/
def enqueue (m : Message) (s : State) : State := { s with link := { s.link with outbound := s.link.outbound ++ [m] } }

/-- The oldest frame leaves the intake: the release count rises, and pending CREDIT is set if the outbound queue is empty
(R151). -/
def depart (s : State) : State :=
  { s with link :=
      { s.link with
        intake := s.link.intake.tail
        release := s.link.release + 1#8
        pendingCredit := s.link.pendingCredit || s.link.outbound.isEmpty } }

/-- The message INT can take: that of the oldest frame of the intake, when no frame is under processing (R114). -/
def State.intHead (s : State) : Option (List Byte) :=
  if s.running && !s.intBusy then s.link.intake.head? else none

/-! ## Link counters -/

/-- The state with LNK's record changed. -/
def State.onLink (s : State) (f : Link → Link) : State := { s with link := f s.link }

end Sys2Proof.Machine
end

