-- ==== Sys2Proof/Machine/Sender.lean ====
section
/-!
DEFINITION. LNK's two sides: acknowledgements, the up sender's choice, REJECTs (chapter 9).
-/
namespace Sys2Proof.Machine

/-! ## Acknowledgements (R152) -/

/-- The acknowledged point: the sequence just before the oldest frame of the replay list, or before the next up
sequence when the list is empty (R152). -/
def Link.acknowledgedPoint (l : Link) : Byte :=
  match l.replay with
  | [] => l.nextUp - 1#8
  | f :: _ => f.sequence - 1#8

/-- Whether a frame of the replay list carries a sequence number. -/
def Link.listed (l : Link) (n : Byte) : Bool := l.replay.any (fun f => f.sequence == n)

/-- The frames behind the one with sequence `k`. -/
def framesAfter (k : Byte) : List Sent → List Sent
  | [] => []
  | f :: fs => if f.sequence = k then fs else framesAfter k fs

/-- The frames from the one with sequence `k` on. -/
def framesFrom (k : Byte) : List Sent → List Sent
  | [] => []
  | f :: fs => if f.sequence = k then f :: fs else framesFrom k fs

/-- Progress, with `rest` the frames left in the replay list: the stall count and mode, the timer, and the replay pointer
where it named a removed frame (R152). -/
def Link.progress (l : Link) (rest : List Sent) : Link :=
  { l with
    replay := rest
    stall := 0
    mode := .running
    timer := !rest.isEmpty
    pointer :=
      match l.pointer with
      | none => none
      | some n => if rest.any (fun f => f.sequence == n) then some n else rest.head?.map (·.sequence) }

/-- An acknowledgement applied (R152). -/
def Link.acknowledge (l : Link) (k : Byte) : Link :=
  if l.listed k then l.progress (framesAfter k l.replay)
  else if k = l.acknowledgedPoint then l
  else { l with counters := { l.counters with ackRange := bump l.counters.ackRange } }

/-- A RESEND(n) judged after its acknowledgement (R157). -/
def Link.resendFrom (l : Link) (n : Byte) : Link :=
  if l.listed n then { l.progress (framesFrom n l.replay) with pointer := some n }
  else if n = l.nextUp then { l.progress [] with pointer := none }
  else { l with counters := { l.counters with resendIgnored := bump l.counters.resendIgnored } }

/-! ## The down receiver (R147 to R149) -/

/-- A frame discarded for a failed check, for a full intake or for being ahead: an episode begins with a REJECT, or runs
on (R149). -/
def Link.discard (l : Link) (reason : RejectReason) : Link :=
  if l.episode then l
  else
    { l with
      episode := true
      pendingReject := some reason
      counters := { l.counters with reject := bump l.counters.reject } }

/-- A sequenced frame judged by its distance from the expected down sequence (R148). -/
def Link.judge (l : Link) (sequence : Byte) (message : List Byte) : Link :=
  let d := (sequence - l.expected).toNat
  if d = 0 then
    if l.intake.length < 8 then
      { l with intake := l.intake ++ [message], expected := l.expected + 1#8, episode := false }
    else l.discard .full
  else if d < 128 then l.discard .order
  else { l with counters := { l.counters with duplicate := bump l.counters.duplicate } }

/-- A frame that failed its check: the CRC counter rises, and a lost sequenced frame begins an episode (R147). -/
def Link.checkFailed (l : Link) (namesLinkFrame : Bool) : Link :=
  let l := { l with counters := { l.counters with crc := bump l.counters.crc } }
  if namesLinkFrame then l else l.discard .crc

/-! ## The up sender (R153 to R156) -/

/-- The transmission of a frame begun with the link fields of this event (R146). -/
def Link.begin (l : Link) (c : UpContent) : Link :=
  { l with transmission := some { content := c, expected := l.expected, release := l.release } }

/-- The sender's choice at an idle channel: REJECT, CREDIT, the frame at the replay pointer, the oldest frame of the
outbound queue (R153). -/
def Link.choose (l : Link) : Link :=
  match l.pendingReject with
  | some r => { l.begin (.reject r) with pendingReject := none }
  | none =>
    if l.pendingCredit then { l.begin .credit with pendingCredit := false }
    else if l.mode = .stalled then l
    else
      match l.pointer with
      | some n =>
        match framesFrom n l.replay with
        | [] => l
        | f :: fs => { l.begin (.message f.sequence f.message) with pointer := fs.head?.map (·.sequence) }
      | none =>
        match l.outbound with
        | [] => l
        | m :: ms =>
          if l.replay.length < 16 then
            { l.begin (.message l.nextUp m) with
              outbound := ms
              replay := l.replay ++ [{ sequence := l.nextUp, message := m }]
              nextUp := l.nextUp + 1#8
              timer := l.timer || l.replay.isEmpty }
          else l

/-- The sender acts: it chooses when the part runs and the channel is free (R153, R161). -/
def kick (s : State) : State :=
  if s.running && s.link.transmission.isNone then { s with link := s.link.choose } else s

/-- A replay timer expiry (R156). -/
def Link.expire (l : Link) : Link :=
  let l := { l with stall := l.stall + 1, counters := { l.counters with replayExpiry := bump l.counters.replayExpiry } }
  if l.stall < 4 then { l with pointer := l.replay.head?.map (·.sequence) }
  else { l with mode := .stalled, pointer := none, timer := false }

end Sys2Proof.Machine
end

