-- ==== Sys2Proof/Machine/Table.lean ====
section
/-!
DEFINITION. The in-flight table IFT and the sessions that its entries are charged to: lookups, blocking, FENCE completion,
freeing, reply release (chapters 2 and 6).
-/
namespace Sys2Proof.Machine

/-! ## Entries -/

/-- The host line address of an entry's request; a FENCE has none (R20). -/
def EntryKind.address : EntryKind → Option Nat
  | .read a _ _ => some a
  | .write a _ => some a
  | .merge a _ _ => some a
  | .fence => none

/-- Whether the entry is a FENCE. -/
def EntryKind.isFence : EntryKind → Bool
  | .fence => true
  | _ => false

/-- Whether the entry is a WRITE. -/
def EntryKind.isWrite : EntryKind → Bool
  | .write _ _ => true
  | _ => false

/-- Whether an occupied entry has ended its array work: it is in REPLY_WAIT (section 2.2). -/
def Entry.ended (e : Entry) : Bool := e.state == .replyWait

/-- The record of a new entry before its release (R21). -/
def Entry.new (key : EntryKey) (kind : EntryKind) : Entry :=
  { key := key, kind := kind, location := none, buffer := none, state := .profileHeld, passes := 0, found := none,
    outcome := none, remapped := false, orphan := false }

/-- The occupied entry with a key. -/
def State.entry (s : State) (k : EntryKey) : Option Entry := s.table.find? (fun e => e.key == k)

/-- The table with the entry of a key changed. -/
def State.onEntry (s : State) (k : EntryKey) (f : Entry → Entry) : State :=
  { s with table := s.table.map (fun e => if e.key = k then f e else e) }

/-- The slot's entry count: the occupied entries charged to it (R23, R98). -/
def State.entryCount (s : State) (k : SlotId) : Nat := (s.table.filter (fun e => e.key.slot == k)).length

/-- Whether a tag is in a slot's tag map: the tags of the occupied entries charged to it (R22). -/
def State.tagInUse (s : State) (k : SlotId) (tag : Byte) : Bool :=
  s.table.any (fun e => e.key == { slot := k, tag := tag })

/-! ## Lane queues and blocking (R25, R26, R43) -/

/-- Whether an entry stands in a lane's queue: QUEUED or ACTIVE, with a location in the lane (R43). -/
def Entry.inQueue (e : Entry) (a : LaneId) : Bool :=
  (e.state == .queued || e.state == .active) && e.location.any (fun l => l.lane == a)

/-- A lane's queue, oldest first (R43): the entries of the table that stand in it, in acceptance order. -/
def State.laneQueue (s : State) (a : LaneId) : List Entry := s.table.filter (fun e => e.inQueue a)

/-- Two entries name the same host line address (R25). -/
def sameLine (e f : Entry) : Bool := e.kind.address.isSome && e.kind.address == f.kind.address

/-- Whether an entry is blocked by line or by fence, given the older occupied entries (R25, R26). -/
def blocked (older : List Entry) (e : Entry) : Bool :=
  older.any (fun o => !o.ended && (sameLine o e || (o.kind.isFence && o.key.slot == e.key.slot)))

/-- The eligible entries of a lane among `rest`, given the entries older than them. -/
def eligibleFrom (a : LaneId) : List Entry → List Entry → List Entry
  | _, [] => []
  | older, e :: rest =>
    let tail := eligibleFrom a (e :: older) rest
    if e.state == .queued && e.inQueue a && !blocked older e then e :: tail else tail

/-- The eligible set E of a lane, oldest first (R45). -/
def State.eligible (s : State) (a : LaneId) : List Entry := eligibleFrom a [] s.table

/-! ## FENCE completion (R26) -/

/-- Whether a FENCE in FENCE_WAIT completes: every older entry of its slot has ended its array work (R26). -/
def fenceDone (older : List Entry) (e : Entry) : Bool :=
  e.kind.isFence && e.state == .fenceWait && older.all (fun o => o.key.slot != e.key.slot || o.ended)

/-- The FENCEs that `check` names are checked in acceptance order, each against the older entries as the checks before it
left them: the entries after, and the keys of the FENCEs that completed, in order (R26). -/
def completeFencesFrom (check : Entry → Bool) : List Entry → List Entry → List Entry × List EntryKey
  | _, [] => ([], [])
  | older, e :: rest =>
    if check e && fenceDone older e then
      let e' := { e with state := .replyWait, outcome := some .ok }
      let r := completeFencesFrom check (e' :: older) rest
      (e' :: r.1, e.key :: r.2)
    else
      let r := completeFencesFrom check (e :: older) rest
      (e :: r.1, r.2)

/-- The FENCEs that `check` names are checked; those that complete join the reply list (R26, R30). -/
def completeFences (check : Entry → Bool) (s : State) : State :=
  let r := completeFencesFrom check [] s.table
  { s with table := r.1, replies := s.replies ++ r.2 }

/-- Whether an entry is charged to a slot. -/
def Entry.chargedTo (k : SlotId) (e : Entry) : Bool := e.key.slot == k

/-! ## Freeing (R33, R37, R104, R108) -/

/-- A CLOSING slot whose entry count is 0 produces its CLOSED reply (R104). -/
def closeIfDrained (k : SlotId) (s : State) : State :=
  if (s.slot k).state = .closing ∧ s.entryCount k = 0 then produce (.closed k (s.slot k).discarded) s else s

/-- What SES does at a fall of a slot's entry count (R98): in CLOSING, a fall to 0 produces the CLOSED reply; in DETACHED,
a fall to 0 makes the slot FREE (R108). -/
def countFell (k : SlotId) (s : State) : State :=
  if (s.slot k).state = .detached ∧ s.entryCount k = 0 then s.setSlot k Slot.unused else closeIfDrained k s

/-- An entry's place freed: the entry, its tag and its charge go, and it leaves the reply list (R22, R23, R30). -/
def freeEntry (k : EntryKey) (s : State) : State :=
  countFell k.slot
    { s with table := s.table.filter (fun e => e.key != k), replies := s.replies.filter (fun r => r != k) }

/-! ## Release of an entry to its lane queue (R5, R24, R35) -/

/-- An entry released: a READ, WRITE or MERGE has its location computed with the active map and enters QUEUED, a FENCE
enters FENCE_WAIT (R24). Without an active map nothing is released (R5). -/
def releaseEntry (active : Option Profile) (e : Entry) : Entry :=
  match e.kind.address, active with
  | none, _ => { e with state := .fenceWait }
  | some a, some p => { e with state := .queued, location := some (locate p.map a) }
  | some _, none => e

/-! ## Reply release (R30 to R33) and the replies (R120, R127, R128) -/

/-- Whether the entry of a key is releasable: always in a FREE slot, as the oldest occupied entry of its slot in an
ORDERED one (R31, R32). -/
def State.releasable (s : State) (k : EntryKey) : Bool :=
  match (s.slot k.slot).order with
  | .free => true
  | .ordered => (s.table.find? (fun o => o.key.slot == k.slot)).any (fun o => o.key == k)

/-- The table's candidate for the outbound arbiter: the first releasable entry of the reply list (R30). -/
def State.candidate (s : State) : Option Entry := (s.replies.find? (fun k => s.releasable k)).bind s.entry

/-- The number of the word that stands at place `i` of a read reply (R120). -/
def replyWord (order : WordOrder) (start : Fin 16) (length : ReadLength) (i : Nat) : Nat :=
  match order, length with
  | .sequential, .full => (start.val + i) % 16
  | .sequential, .short => 8 * (start.val / 8) + (start.val % 8 + i) % 8
  | .interleaved, _ => start.val ^^^ i

/-- How many words a read reply carries (R120). -/
def ReadLength.words : ReadLength → Nat
  | .full => 16
  | .short => 8

/-- The words of a DATA reply with status OK or CORRECTED, from the line buffer (R120). -/
def replyWords (order : WordOrder) (start : Fin 16) (length : ReadLength) (buffer : List Byte) : List Word :=
  (List.range length.words).map (fun i => lineWord buffer (replyWord order start length i))

/-- The reply of an entry, built at its grant (R33, R121, R127 to R129). An entry in REPLY_WAIT has its outcome and, for a
READ, its line buffer. -/
def entryReply (order : WordOrder) (e : Entry) : Message :=
  let status := e.outcome.getD .ok
  match e.kind with
  | .read _ start length =>
    .data e.key status start length
      (if status = .lost then [] else replyWords order start length (e.buffer.getD []))
  | _ => .done e.key status e.remapped

end Sys2Proof.Machine
end

