-- ==== Sys2Proof/Machine/Scheduler.lean ====
section
/-!
DEFINITION. The lanes' schedulers (chapter 3) and what ITG does for them: target pages, remapping at selection, the
suspect list (chapter 5).
-/
namespace Sys2Proof.Machine

/-! ## Remap tables, suspects, spares (R82 to R92) -/

/-- The spare line that a lane's remap table names for a location, if any (R90). -/
def Lane.remapOf (l : Lane) (loc : Location) : Option SpareId :=
  (l.remaps.find? (fun r => r.page == loc.page && r.line == loc.line)).map (·.spare)

/-- Whether the suspect list holds a record for a location (R82). -/
def State.suspect (s : State) (loc : Location) : Bool := s.itg.suspects.any (fun r => r.location == loc)

/-- The lowest-numbered FREE spare line of a lane, if any (R89). -/
def Lane.lowestFree (l : Lane) : Option SpareId := allLanes.find? (fun i => l.spares.get i == .free)

/-- How many spare lines of a lane are in a state (R178). -/
def Lane.spareCount (l : Lane) (st : SpareState) : Nat := (l.spares.toList.filter (fun x => x == st)).length

/-- Whether a WRITE to the location would be remapped at its selection: suspect, automatic remapping ON, a FREE spare
(R46). -/
def State.wouldRemap (s : State) (loc : Location) : Bool :=
  s.suspect loc && s.remappingOn && (s.lane loc.lane).lowestFree.isSome

/-- The target page of an entry (R46). -/
def State.target (s : State) (isWrite : Bool) (loc : Location) : PageName :=
  if ((s.lane loc.lane).remapOf loc).isSome || (isWrite && s.wouldRemap loc) then .spareRow else .page loc.page

/-- The target page of an entry that has a location. -/
def State.targetOf (s : State) (e : Entry) : Option PageName := e.location.map (s.target e.kind.isWrite)

/-- The remap table with a location mapped to spare line `f`: the record changed in place, or a new one at the tail
(R90, R91). -/
def putRemap (loc : Location) (f : SpareId) : List Remap → List Remap
  | [] => [{ page := loc.page, line := loc.line, spare := f }]
  | r :: rs => if r.page = loc.page ∧ r.line = loc.line then { r with spare := f } :: rs else r :: putRemap loc f rs

/-- The lane's record after a remap of a location to the FREE spare line `f`: `f` IN_USE, the spare it had RETIRED
(R91). -/
def Lane.remap (l : Lane) (loc : Location) (f : SpareId) : Lane :=
  let spares := match l.remapOf loc with
    | some old => l.spares.set old .retired
    | none => l.spares
  { l with remaps := putRemap loc f l.remaps, spares := spares.set f .inUse }

/-- ITG's decision at the selection of a WRITE (R91, R92): the remap, the exhaustion, or nothing. -/
def selectWrite (k : EntryKey) (loc : Location) (s : State) : State :=
  if s.suspect loc && s.remappingOn then
    match (s.lane loc.lane).lowestFree with
    | some f =>
      State.onEntry
        { s with
          lanes := s.lanes.set loc.lane ((s.lane loc.lane).remap loc f)
          itg := { s.itg with suspects := s.itg.suspects.filter (fun r => r.location != loc) } }
        k (fun e => { e with remapped := true })
    | none =>
      if (s.lane loc.lane).exhausted then s
      else postNotice (.sparesExhausted loc.lane) (s.setLane loc.lane { s.lane loc.lane with exhausted := true })
  else s

/-- A LOST location offered to the suspect list, with the spare line that the phase reached (R83). -/
def offerSuspect (loc : Location) (spare : Option SpareId) (s : State) : State :=
  if s.suspect loc then s
  else if s.itg.suspects.length < 16 then
    postNotice (.suspectAdded loc)
      { s with itg := { s.itg with suspects := s.itg.suspects ++ [{ location := loc, spare := spare }] } }
  else postNotice (.suspectFull loc) { s with itg := { s.itg with overflow := bump s.itg.overflow } }

/-! ## The decision (R49 to R56) -/

/-- The five actions of a scheduler. `serve` names the entry and the older eligible entries that it passes. -/
inductive Action where
  | serve (entry : EntryKey) (passed : List EntryKey)
  | openPage (page : PageName)
  | close
  | restore
  | stay
  deriving DecidableEq, Repr

/-- Pull-in is allowed in READY with no profile staged (R56). -/
def State.pullIn (s : State) : Bool := s.stc.device == .ready && s.prf.staged.isNone

/-- Whether a lane in HELD with an empty eligible set closes its page (R54). -/
def State.closesIdle (s : State) (a : LaneId) : Bool :=
  decide (1 ≤ (s.lane a).debt) || s.prf.staged.isSome || s.stc.device == .resting || s.releasePolicy

/-- The entries of E that stand before the one with key `k`. -/
def keysBefore (k : EntryKey) : List Entry → List EntryKey
  | [] => []
  | e :: es => if e.key = k then [] else e.key :: keysBefore k es

/-- The decision in HELD(p) with the forced flag clear (R50 to R54). -/
def State.decideHeld (s : State) (a : LaneId) (p : PageName) : Action :=
  match s.eligible a with
  | [] => if s.closesIdle a then .close else .stay
  | o :: es =>
    if s.targetOf o = some p then .serve o.key []
    else if s.atAgeCap o.passes then .close
    else
      match (o :: es).find? (fun e => s.targetOf e == some p) with
      | some h => .serve h.key (keysBefore h.key (o :: es))
      | none => .close

/-- The decision in CLOSED with the forced flag clear (R55, R56). -/
def State.decideClosed (s : State) (a : LaneId) : Action :=
  match s.eligible a with
  | o :: _ => (s.targetOf o).elim .stay .openPage
  | [] =>
    if 1 ≤ (s.lane a).debt then .restore
    else if -1 ≤ (s.lane a).debt ∧ s.pullIn then .restore
    else .stay

/-- The decision of a lane's scheduler: the first test that holds gives the action (section 3.4). A lane that is not idle
decides nothing (R48). -/
def State.decision (s : State) (a : LaneId) : Action :=
  match (s.lane a).state with
  | .held p => if (s.lane a).forced then .close else s.decideHeld a p
  | .closed => if (s.lane a).forced then .restore else s.decideClosed a
  | _ => .stay

/-! ## What an action begins -/

/-- The line that a phase in page `p` reaches for a location: the line of a numbered page, or in the spare row the spare
line that the remap record names (R7, R11). The target of an entry is SPARE only where such a record exists. -/
def State.reach (s : State) (p : PageName) (loc : Location) : ArrayLine :=
  match p with
  | .page q => .host { loc with page := q }
  | .spareRow =>
    match (s.lane loc.lane).remapOf loc with
    | some i => .spare loc.lane i
    | none => .host loc

/-- A pass count raised by one; it stays at 15 (R52). -/
def Entry.pass (e : Entry) : Entry := { e with passes := if e.passes < 15 then e.passes + 1 else e.passes }

/-- The pass counts of the entries passed over, raised (R52). -/
def raisePasses (passed : List EntryKey) (s : State) : State :=
  { s with table := s.table.map (fun e => if e.key ∈ passed then e.pass else e) }

/-- The first phase of an entry: READ for a READ or MERGE, WRITE for a WRITE (R57). -/
def EntryKind.firstPhase (k : EntryKind) : Phase := if k.isWrite then .write else .read

/-- Entry `k` served in page `p` (R57): pass counts raised, ITG's decision for a WRITE, the entry ACTIVE, its first phase
begun. -/
def serve (a : LaneId) (p : PageName) (k : EntryKey) (passed : List EntryKey) (s : State) : State :=
  match s.entry k with
  | none => s
  | some e =>
    match e.location with
    | none => s
    | some loc =>
      let s := raisePasses passed s
      let s := if e.kind.isWrite then selectWrite k loc s else s
      let s := s.onEntry k (fun e => { e with state := .active })
      s.setLaneState a (.access p k e.kind.firstPhase (s.reach p loc))

/-- What a decision begins at lane `a` (R8, R10, R15, R16, R57). -/
def act (a : LaneId) (d : Action) (s : State) : State :=
  match d, (s.lane a).state with
  | .serve k passed, .held p => serve a p k passed s
  | .openPage p, .closed => s.setLaneState a (.opening p)
  | .close, .held p => s.setLaneState a (.closing p)
  | .restore, .closed => s.setLaneState a .restoring
  | _, _ => s

/-- A lane's scheduler decides and acts. A lane that is not idle does neither (R48). -/
def decideLane (s : State) (a : LaneId) : State := act a (s.decision a) s

/-- The lanes named decide, one after another in the order named. Where one event reaches several lanes the model takes
them in ascending number (DESIGN CHOICE, log entry 11). -/
def tell (lanes : List LaneId) (s : State) : State := lanes.foldl decideLane s

/-- Whether lane `a` is told of a change of the in-flight table from `before` to `after`: an entry joined or left its
queue, or an entry of its queue became unblocked (R27, R48). -/
def toldOf (before after : State) (a : LaneId) : Bool :=
  ((before.laneQueue a).map (·.key) != (after.laneQueue a).map (·.key)) ||
    (after.eligible a).any (fun e => !(before.eligible a).any (fun f => f.key == e.key))

/-- The lanes that a change of the table reaches decide. -/
def tellChanged (before after : State) : State := tell (allLanes.filter (toldOf before after)) after

end Sys2Proof.Machine
end

