-- ==== Sys2Proof/Machine/Internal.lean ====
section
/-!
DEFINITION. The part's own steps that fall due inside an event: the application of a profile, the end of the drain, and
the grants of the outbound arbiter. Each is a row of the opcode table with a command of its own, and each belongs to the
event that made it due: one that is still due when another command comes is taken before that command
(DESIGN CHOICE, log entry 1).
-/
namespace Sys2Proof.Machine

/-- The steps that can be due, in the order in which they are taken: what produces a reply comes before the grants
(DESIGN CHOICE, log entry 2). -/
inductive Due where
  | application
  | drain
  | intReply
  | closedReply
  | profileApplied
  | stcReply
  | entryReply
  | notice
  deriving DecidableEq, Repr

/-! ## Application of a profile (R134, R137, R138) -/

/-- Whether a profile is to be applied now. In READY: a profile is staged, no entry is QUEUED, ACTIVE or FENCE_WAIT, and
every lane is CLOSED and staying (R137). In UNCONFIGURED: a SET PROFILE is under processing and every lane is CLOSED and
staying (R134). -/
def State.toApply (s : State) : Option Profile :=
  match s.stc.device with
  | .ready =>
    if s.lanesClosed && s.table.all (fun e => e.state == .profileHeld || e.state == .replyWait) then s.prf.staged
    else none
  | .unconfigured => if s.lanesClosed then s.prf.processing else none
  | _ => none

/-- The debt at which a set forced flag clears, for deferral limit D: max(D - 3, 0) (R68). -/
def clearLevel (deferral : Nat) : Int := ((deferral - 3 : Nat) : Int)

/-- A lane's forced flag against a deferral limit that has just come into force (R69). -/
def Lane.reevaluate (deferral : Nat) (l : Lane) : Lane :=
  if (deferral : Int) ≤ l.debt then { l with forced := true }
  else if l.debt ≤ clearLevel deferral then { l with forced := false }
  else l

/-- Every PROFILE_HELD entry released under the map now active, in acceptance order, and every FENCE checked behind the
entries older than it (R35). -/
def releaseHeld (s : State) : State :=
  completeFences (fun _ => true)
    { s with
      table := s.table.map (fun e => if e.state = .profileHeld then releaseEntry s.prf.active e else e) }

/-- What every application does (R138): the profile becomes active, the forced flags are re-evaluated, the held entries
are released, every lane is told. -/
def applyProfile (p : Profile) (s : State) : State :=
  let s := { s with
    prf := { s.prf with active := some p, staged := none, processing := none }
    lanes := s.lanes.map (Lane.reevaluate p.deferral) }
  tell allLanes (releaseHeld s)

/-- The application. In READY PRF produces PROFILE APPLIED (R140). In UNCONFIGURED the device becomes READY and the reply
is INT's (R134). -/
def application (p : Profile) (s : State) : State :=
  match s.stc.device with
  | .unconfigured =>
    applyProfile p (reply (.profileApplied p.label) { s with stc := { s.stc with device := .ready } })
  | _ => applyProfile p (produce (.profileApplied p.label) s)

/-! ## The end of the drain (R169) -/

/-- Whether the drain is complete: RESTING, the table empty, every lane CLOSED and staying (R169). -/
def State.drained (s : State) : Bool := s.stc.device == .resting && s.table.isEmpty && s.lanesClosed

/-- RETAINED is entered; RESTED is produced if it is owed; every lane is told (R169). -/
def drainEnds (s : State) : State :=
  let owed := s.stc.restOwed
  let s := { s with stc := { s.stc with device := .retained, restOwed := false } }
  tell allLanes (if owed then produce (.stc .rested) s else s)

/-! ## Grants (R159) -/

/-- The message of STC's own reply. -/
def StcReply.message : StcReply → Message
  | .rested => .rested
  | .restCancelled => .restCancelled
  | .awake => .awake

/-- The message of a class 1 reply. -/
def Waiting.message : Waiting → Message
  | .int m => m
  | .closed k n => .closed k n
  | .profileApplied l => .profileApplied l
  | .stc r => r.message

/-- The grant to the first reply of class 1, the oldest but where a PROFILE STATE has passed a PROFILE APPLIED (R159, R144;
log entry 29): its message enters the outbound queue and its producer acts (R159). INT's frame leaves the intake (R114;
DEDUCED, log entry 21), SES makes the slot FREE (R105). -/
def grantClass1 (s : State) : State :=
  match s.waiting with
  | [] => s
  | w :: ws =>
    let s := enqueue w.message { s with waiting := ws }
    match w with
    | .int _ => depart s
    | .closed k _ => s.setSlot k Slot.unused
    | .profileApplied _ => s
    | .stc _ => s

/-- The grant to the in-flight table's candidate: its reply enters the outbound queue and its place is freed (R33). -/
def grantEntry (s : State) : State :=
  match s.candidate with
  | none => s
  | some e => freeEntry e.key (enqueue (entryReply s.wordOrder e) s)

/-- The grant to SNU's oldest notice. NOTICES_LOST takes the freed place if notices were dropped (R176). -/
def grantNotice (s : State) : State :=
  match s.snu.queue with
  | [] => s
  | n :: ns =>
    let snu : Notices :=
      if 0 < s.snu.lost then { queue := ns ++ [.noticesLost s.snu.lost], lost := 0 } else { s.snu with queue := ns }
    enqueue (.notice n) { s with snu := snu }

/-- The grant that is due while the outbound queue has a free place: class 1, then the candidate, then a notice (R159). -/
def State.grantDue (s : State) : Option Due :=
  match s.waiting with
  | .int _ :: _ => some .intReply
  | .closed _ _ :: _ => some .closedReply
  | .profileApplied _ :: _ => some .profileApplied
  | .stc _ :: _ => some .stcReply
  | [] =>
    if s.candidate.isSome then some .entryReply
    else if s.snu.queue.isEmpty then none
    else some .notice

/-- The step that is due, if any. None is while the part is held or without supply (R164, R165). -/
def State.due (s : State) : Option Due :=
  if !s.running then none
  else if s.toApply.isSome then some .application
  else if s.drained then some .drain
  else if s.link.outbound.length < 24 then s.grantDue
  else none

/-- A due step performed, and the sender's choice after it. -/
def perform (d : Due) (s : State) : State :=
  match d with
  | .application =>
    match s.toApply with
    | some p => kick (application p s)
    | none => s
  | .drain => kick (drainEnds s)
  | .intReply => kick (grantClass1 s)
  | .closedReply => kick (grantClass1 s)
  | .profileApplied => kick (grantClass1 s)
  | .stcReply => kick (grantClass1 s)
  | .entryReply => kick (grantEntry s)
  | .notice => kick (grantNotice s)

/-- Up to `n` due steps performed, each after the sender's choice. -/
def settleFor : Nat → State → State
  | 0, s => kick s
  | n + 1, s =>
    match (kick s).due with
    | none => kick s
    | some d => settleFor n (perform d (kick s))

/-- Every step that is due performed. At most an application, a drain's end and one grant for each of the 24 outbound
places and the one that the sender's choice frees can be due. -/
def settle (s : State) : State := settleFor 32 s

/-- Nothing is due: the sender has chosen and no step waits. -/
abbrev State.settled (s : State) : Prop := kick s = s ∧ s.due = none

/-- The outcome of a command: the steps still due are taken, then the command's own event, then the sender's choice. -/
def event (f : State → State) (s : State) : Host.Outcome State Fault Refusal := .next (kick (f (settle s)))

/-- The outcome of the command of a due step: the step, when it is the one that is due; otherwise it does not occur. -/
def internal (d : Due) (s : State) : Host.Outcome State Fault Refusal :=
  if s.due = some d then .next (perform d s) else .next s

end Sys2Proof.Machine
end

