-- ==== Sys2Proof/Machine/LinkEvents.lean ====
section
/-!
DEFINITION. The arrivals on the down channel, the replay timer and the end of a transmission (chapter 9), with the link
reset that reaches every block (R160). While the part is held at reset or without supply it takes no frame (R161, R165).
-/
namespace Sys2Proof.Machine

/-- An event of the part that occurs only while it runs. -/
def whileRunning (f : State → State) (s : State) : State := if s.running then f s else s

/-- DOWN_SEQUENCED_FRAME: the acknowledgement is applied, then the frame is judged (R148). A message of more than 255
bytes fits no frame (R182). -/
def execDownSequencedFrame (acknowledgement sequence : Byte) (message : List Byte) (s : State) :
    Host.Outcome State Fault Refusal :=
  event (whileRunning fun s =>
    if message.length < 256 then s.onLink (fun l => (l.acknowledge acknowledgement).judge sequence message) else s) s

/-- DOWN_FRAME_CHECK_FAILED: a run of bytes that fails its check or shape, or whose class code names no class (R147). -/
def execDownFrameCheckFailed (frame : List Byte) (s : State) : Host.Outcome State Fault Refusal :=
  event (whileRunning fun s =>
    match receive frame with
    | .failed link => s.onLink (fun l => l.checkFailed link)
    | _ => s) s

/-- ACK: the acknowledgement is applied and pending CREDIT is set (R150). -/
def execAck (acknowledgement : Byte) (s : State) : Host.Outcome State Fault Refusal :=
  event (whileRunning fun s =>
    s.onLink (fun l => { l.acknowledge acknowledgement with pendingCredit := true })) s

/-- RESEND(n): the acknowledgement is applied, then n is judged against the replay list (R157). -/
def execResend (acknowledgement n : Byte) (s : State) : Host.Outcome State Fault Refusal :=
  event (whileRunning fun s => s.onLink (fun l => (l.acknowledge acknowledgement).resendFrom n)) s

/-! ## Link reset (R160) -/

/-- The table after a link reset: every entry that is not ACTIVE freed, every ACTIVE entry an orphan (R39). -/
def orphanTable (t : List Entry) : List Entry :=
  (t.filter (fun e => e.state == .active)).map (fun e => { e with orphan := true })

/-- A slot after a link reset, given its entry count after IFT's discards (R107). -/
def Slot.linkReset (r : Slot) (count : Nat) : Slot :=
  match r.state with
  | .free => r
  | .detached => r
  | _ => if 0 < count then { r with state := .detached, discarded := 0 } else Slot.unused

/-- The link reset at every block (R160): LNK's values, INT's and every other pending reply discarded (R114, R107, R141,
R173), entries freed or orphaned (R39), slots freed or detached (R107), a staged profile and one under processing
discarded (R141), the notice queue emptied (R177), the owed flags cleared (R173). -/
def linkResetBlocks (s : State) : State :=
  let table := orphanTable s.table
  let count (k : SlotId) := (table.filter (fun e => e.key.slot == k)).length
  { s with
    link := Link.afterReset s.link.counters
    waiting := []
    table := table
    replies := []
    slots :=
      ⟨(s.slot 0).linkReset (count 0), (s.slot 1).linkReset (count 1), (s.slot 2).linkReset (count 2),
        (s.slot 3).linkReset (count 3)⟩
    prf := { s.prf with staged := none, processing := none }
    stc := { s.stc with restOwed := false, wakeOwed := false }
    snu := { queue := [], lost := 0 } }

/-- LINK_RESET: the acknowledgement is applied first (its count stays), then the link is reset (R160). The lanes that an
entry left are told (R44), and every lane when a staged profile is discarded (R48, R141). -/
def execLinkReset (acknowledgement : Byte) (s : State) : Host.Outcome State Fault Refusal :=
  event (whileRunning fun s =>
    let s := s.onLink (fun l => l.acknowledge acknowledgement)
    let t := linkResetBlocks s
    if s.prf.staged.isSome then tell allLanes t else tellChanged s t) s

/-- REPLAY_TIMER_EXPIRY, while the timer runs (R156). -/
def execReplayTimerExpiry (s : State) : Host.Outcome State Fault Refusal :=
  event (whileRunning fun s => if s.link.timer then s.onLink Link.expire else s) s

/-- TRANSMISSION_END: the frame being sent ends, and the sender chooses the next (R153). -/
def execTransmissionEnd (s : State) : Host.Outcome State Fault Refusal :=
  event (whileRunning fun s => s.onLink (fun l => { l with transmission := none })) s

end Sys2Proof.Machine
end

