-- ==== Sys2Proof/Machine/Resets.lean ====
section
/-!
DEFINITION. Full reset, the RESET_N pin and the supplies (section 10.2), and the completion of initialization.
-/
namespace Sys2Proof.Machine

/-- The line that an interrupted WRITE or WRITE_BACK phase of a lane was reaching (R18). -/
def LaneState.writing : LaneState → Option ArrayLine
  | .access _ _ .write l => some l
  | .access _ _ .writeBack l => some l
  | _ => none

/-- The array with the line that each lane was writing left undefined (R18). Each such line draws a free value of its
own. -/
def spoilWrites (s : State) : State :=
  allLanes.foldl
    (fun t a =>
      match (s.lane a).state.writing with
      | some l => { t with array := t.array.spoil l t.draws, draws := t.draws + 1 }
      | none => t) s

/-- A full reset: every block takes its reset values (R164). The array keeps its content until initialization writes it,
but for lines whose writing was interrupted (R18; DESIGN CHOICE, log entry 20). The pins stay as they are, and while RESET_N is low no reading interval
runs (R164). -/
def fullReset (s : State) : State :=
  let t := spoilWrites s
  { State.reset with
    pending := s.pending
    pins := s.pins
    array := t.array
    draws := t.draws
    rst := { State.reset.rst with interval := if s.pins.resetN then some .oneMs else none } }

/-- FULL_RESET: a FULL RESET frame that passes its check (R150, R164). Its acknowledgement is applied first, and every
value that this changes is then a reset value. -/
def execFullReset (acknowledgement : Byte) (s : State) : Host.Outcome State Fault Refusal :=
  event (whileRunning fun s => fullReset (s.onLink (fun l => l.acknowledge acknowledgement))) s

/-- RESET_N_FALL: a full reset, held while RESET_N stays low (R164). Without supply only the pin changes. -/
def execResetNFall (s : State) : Host.Outcome State Fault Refusal :=
  event (fun s =>
    if s.pins.resetN then
      let s := { s with pins := { s.pins with resetN := false } }
      if s.pins.supplied then fullReset s else s
    else s) s

/-- RESET_N_RISE: initialization begins from the first line, a 1 ms reading interval begins, and LNK starts from its reset
values with pending CREDIT set (R164, R161). The held part has those values already. -/
def execResetNRise (s : State) : Host.Outcome State Fault Refusal :=
  event (fun s =>
    if s.pins.resetN then s
    else
      let s := { s with pins := { s.pins with resetN := true } }
      if s.pins.supplied then { s with rst := { s.rst with interval := some .oneMs } } else s) s

/-- POWER_UP: both supplies have come within range. It is a full reset, held if RESET_N is low (R165). The content of the
array is undefined (R2). -/
def execPowerUp (s : State) : Host.Outcome State Fault Refusal :=
  event (fun s =>
    if s.pins.supplied then s
    else fullReset { s with pins := { s.pins with supplied := true } }) s

/-- The part without supply: it keeps no state (R165). The values that stand here are the reset values, which nothing
reads before the next power-up sets them again (DESIGN CHOICE, log entry 7). -/
def powerLost (s : State) : State :=
  { State.reset with
    pending := s.pending
    pins := { s.pins with supplied := false }
    rst := { State.reset.rst with interval := none }
    array := { State.reset.array with undefinedDraw := some s.draws }
    draws := s.draws + 1 }

/-- SUPPLY_OUT_OF_RANGE: all state and the content of the array are lost (R165). -/
def execSupplyOutOfRange (s : State) : Host.Outcome State Fault Refusal :=
  event (fun s => if s.pins.supplied then powerLost s else s) s

/-! ## Restoration timer periods (R62) -/

/-- The length of the period that begins now (R62). -/
def State.nextPeriod (s : State) : Period :=
  match s.hot, s.rst.band with
  | .auto, .cool => .single
  | _, _ => .double

/-- ARRAY_INITIALIZATION_COMPLETION: every line is zero with a valid check code, the device becomes UNCONFIGURED, every
debt and pointer is 0, the restoration timer starts, every lane is told (R2, R62, R76, R166). -/
def execArrayInitializationCompletion (s : State) : Host.Outcome State Fault Refusal :=
  event (whileRunning fun s =>
    if s.stc.initializing then
      tell allLanes
        { s with
          array := Storage.initialized
          stc := { s.stc with device := .unconfigured, initializing := false }
          lanes := s.lanes.map (fun l => { l with debt := 0, forced := false, pointer := 0 })
          rst := { s.rst with timer := some s.nextPeriod } }
    else s) s

end Sys2Proof.Machine
end

