-- ==== Sys2Proof/Machine/LaneEvents.lean ====
section
/-!
DEFINITION. The completions of lane operations (chapter 1) with what ITG, RST and the in-flight table do at them, and the
degradation of a line (R19).
-/
namespace Sys2Proof.Machine

/-! ## Page open and close (R10, R15) -/

/-- A page open completes at lane `a`: HELD(p), and the scheduler decides (R10). -/
def openCompletes (a : LaneId) (s : State) : State :=
  match (s.lane a).state with
  | .opening p => decideLane (s.setLaneState a (.held p)) a
  | _ => s

/-- A page close completes at lane `a`: CLOSED, and the scheduler decides (R15). -/
def closeCompletes (a : LaneId) (s : State) : State :=
  match (s.lane a).state with
  | .closing _ => decideLane (s.setLaneState a .closed) a
  | _ => s

/-- PAGE_OPEN_COMPLETION (R10). -/
def execPageOpenCompletion (a : LaneId) (s : State) : Host.Outcome State Fault Refusal :=
  event (whileRunning (openCompletes a)) s

/-- PAGE_CLOSE_COMPLETION (R15). -/
def execPageCloseCompletion (a : LaneId) (s : State) : Host.Outcome State Fault Refusal :=
  event (whileRunning (closeCompletes a)) s

/-! ## Restoration step (R16, R65, R68, R70) -/

/-- RST's account at a step's completion: the debt falls by 1, the pointer advances by 2 modulo 16,384, a set forced flag
clears at the clearing level (R16, R68, R70). -/
def Lane.stepDone (deferral : Nat) (l : Lane) : Lane :=
  let debt := l.debt - 1
  { l with
    state := .closed
    debt := debt
    pointer := l.pointer + 2
    forced := l.forced && decide (clearLevel deferral < debt) }

/-- The array after a step of lane `a` at pointer `p`: pages p and p + 1 restored, and the spare row at pointer 0 (R16). -/
def Storage.step (m : Storage) (a : LaneId) (p : Fin 16384) : Storage :=
  let m := (m.restore a (.page p)).restore a (.page (p + 1))
  if p = 0 then m.restore a .spareRow else m

/-- A restoration step completes at lane `a` (R16). -/
def stepCompletes (a : LaneId) (s : State) : State :=
  match (s.lane a).state with
  | .restoring =>
    let l := s.lane a
    decideLane ({ s with array := s.array.step a l.pointer }.setLane a (l.stepDone s.deferral)) a
  | _ => s

/-- RESTORATION_STEP_COMPLETION (R16). -/
def execRestorationStepCompletion (a : LaneId) (s : State) : Host.Outcome State Fault Refusal :=
  event (whileRunning (stepCompletes a)) s

/-! ## The end of array work (R29, R40) -/

/-- The outcome of an entry from its read outcome; a WRITE has none and is OK (R29). -/
def statusOf : Option ReadOutcome → Status
  | none => .ok
  | some .clean => .ok
  | some .corrected => .corrected
  | some .lost => .lost

/-- The entry enters REPLY_WAIT with its outcome and joins the reply list (R29, R30). -/
def toReplyWait (k : EntryKey) (st : Status) (s : State) : State :=
  let s := s.onEntry k (fun e => { e with state := .replyWait, outcome := some st })
  { s with replies := s.replies ++ [k] }

/-- The array work of entry `e` ends in page `p` of lane `a` (R29): the lane is HELD(p), the entry enters REPLY_WAIT or an
orphan's place is freed (R40), the FENCEs of its slot are checked (R26), and the lanes concerned decide (R27, R58). -/
def endWork (a : LaneId) (p : PageName) (e : Entry) (s : State) : State :=
  let t := s.setLaneState a (.held p)
  let t := if e.orphan then freeEntry e.key t else toReplyWait e.key (statusOf e.found) t
  let t := completeFences (Entry.chargedTo e.key.slot) t
  tell (allLanes.filter (fun b => b == a || toldOf s t b)) t

/-! ## READ phases (R12, R78 to R80) -/

/-- The read outcome that a damage level yields (R19). -/
def outcomeOf : Damage → ReadOutcome
  | .intact => .clean
  | .correctable => .corrected
  | .uncorrectable => .lost

/-- The spare line that a phase reached, if it reached one (R78). -/
def spareReached : ArrayLine → Option SpareId
  | .host _ => none
  | .spare _ i => some i

/-- ITG's handling of a read outcome (R78): the lane's count, and a LOST location offered to the suspect list (R83). -/
def handleOutcome (loc : Location) (line : ArrayLine) (o : ReadOutcome) (s : State) : State :=
  let l := s.lane loc.lane
  match o with
  | .clean => s
  | .corrected => s.setLane loc.lane { l with corrected := bump l.corrected }
  | .lost => offerSuspect loc (spareReached line) (s.setLane loc.lane { l with lost := bump l.lost })

/-- The line buffer that a READ phase leaves: the line as stored or as corrected, which is the line as last written (R12,
R79). After LOST it is unusable: a free value (R12). -/
def State.readBuffer (s : State) (line : ArrayLine) (o : ReadOutcome) : List Byte :=
  match o with
  | .lost => (List.range 64).map (Config.unusableByte s.draws)
  | _ => s.array.line line

/-- The phase that follows a READ phase, if one does (R12). -/
def followingPhase (writeBack : Bool) (k : EntryKind) (o : ReadOutcome) : Option Phase :=
  match k, o with
  | .read _ _ _, .corrected => if writeBack then some .writeBack else none
  | .merge _ _ _, .clean => some .write
  | .merge _ _ _, .corrected => some .write
  | _, _ => none

/-- A READ phase of entry `e` completes (R12). -/
def readCompletes (a : LaneId) (p : PageName) (line : ArrayLine) (e : Entry) (loc : Location) (s : State) : State :=
  let o := outcomeOf (s.array.level line)
  let e := { e with buffer := some (s.readBuffer line o), found := some o }
  let s := handleOutcome loc line o { s.onEntry e.key (fun _ => e) with draws := s.draws + 1 }
  match followingPhase s.writeBackOn e.kind o with
  | some ph => s.setLaneState a (.access p e.key ph line)
  | none => endWork a p e s

/-! ## WRITE and WRITE_BACK phases (R13, R14) -/

/-- The line that a WRITE phase stores (R13). -/
def Entry.written (e : Entry) : List Byte :=
  match e.kind with
  | .write _ data => data
  | .merge _ mask data => mergeBytes mask data (e.buffer.getD [])
  | _ => e.buffer.getD []

/-- A WRITE phase of entry `e` completes (R13). -/
def writeCompletes (a : LaneId) (p : PageName) (line : ArrayLine) (e : Entry) (s : State) : State :=
  endWork a p e { s with array := s.array.write line e.written }

/-- A WRITE_BACK phase of entry `e` completes: the line holds the corrected content of the line buffer (R14). -/
def writeBackCompletes (a : LaneId) (p : PageName) (line : ArrayLine) (e : Entry) (s : State) : State :=
  endWork a p e { s with array := s.array.write line (e.buffer.getD []) }

/-- The completion of a phase of kind `ph` at lane `a`: `f` with the page, the line, the entry and its location. When the
lane performs no such phase the event does not occur (log entry 4); an entry that is missing is a fault (log entry 17). -/
def phaseCompletion (a : LaneId) (ph : Phase)
    (f : PageName → ArrayLine → Entry → Location → State → State) (s : State) : Host.Outcome State Fault Refusal :=
  let s := settle s
  if !s.running then .next (kick s)
  else
    match (s.lane a).state with
    | .access p k ph' line =>
      if ph' = ph then
        match s.entry k with
        | none => .fault .entryMissing
        | some e =>
          match e.location with
          | none => .fault .entryMissing
          | some loc => .next (kick (f p line e loc s))
      else .next (kick s)
    | _ => .next (kick s)

/-- READ_PHASE_COMPLETION (R12). -/
def execReadPhaseCompletion (a : LaneId) (s : State) : Host.Outcome State Fault Refusal :=
  phaseCompletion a .read (fun p line e loc => readCompletes a p line e loc) s

/-- WRITE_PHASE_COMPLETION (R13). -/
def execWritePhaseCompletion (a : LaneId) (s : State) : Host.Outcome State Fault Refusal :=
  phaseCompletion a .write (fun p line e _ => writeCompletes a p line e) s

/-- WRITE_BACK_PHASE_COMPLETION (R14). -/
def execWriteBackPhaseCompletion (a : LaneId) (s : State) : Host.Outcome State Fault Refusal :=
  phaseCompletion a .writeBack (fun p line e _ => writeBackCompletes a p line e) s

/-! ## Degradation (R19) -/

/-- The nominal length of a restoration timer period in tenths of a microsecond (R62). -/
def Period.tenths : Period → Nat
  | .single => 64
  | .double => 32

/-- The retention rating in tenths of a microsecond, by die temperature: 64 ms at 90 °C or below, 32 ms above (R19). -/
def retention (dieTemperature : Int) : Nat := if dieTemperature ≤ 90 then 640000 else 320000

/-- Whether the time since a line's page was last restored can exceed the rating now, that is, before the period in
progress ends (R19). Time is reckoned in nominal timer periods (DESIGN CHOICE, log
entry 8). -/
def State.overdue (s : State) (line : ArrayLine) (dieTemperature : Int) : Bool :=
  match s.rst.timer with
  | none => false
  | some p =>
    let (a, page) := linePage line
    decide (retention dieTemperature < s.array.elapsed + p.tenths - s.array.restoredTime a page)

/-- Whether one damage level is a rise over another (R19). -/
def rises : Damage → Damage → Bool
  | .intact, .correctable => true
  | .intact, .uncorrectable => true
  | .correctable, .uncorrectable => true
  | _, _ => false

/-- A line degrades to a level: only a rise, and only beyond its retention rating (R19). -/
def degrade (line : ArrayLine) (level : Damage) (dieTemperature : Int) (s : State) : State :=
  if s.overdue line dieTemperature && rises (s.array.level line) level then
    { s with array := { s.array with damage := Sparse.put .intact s.array.damage (lineNumber line) level } }
  else s

/-- LINE_DEGRADATION (R19). -/
def execLineDegradation (line : ArrayLine) (level : Damage) (dieTemperature : Int) (s : State) :
    Host.Outcome State Fault Refusal :=
  event (whileRunning (degrade line level dieTemperature)) s

end Sys2Proof.Machine
end

