-- ==== Sys2Proof/Machine/Requests.lean ====
section
/-!
DEFINITION. INT's processing of the requests: decoding, each owner's checks, acceptance or refusal (chapters 5 to 8, 10
and 11).
-/
namespace Sys2Proof.Machine

/-! ## INT (R114, R184) -/

/-- INT takes the oldest frame of the intake, when it can take one and the frame holds a message of the row. A message
that fails decoding is refused with its bytes 1 and 2 (R184); one that decodes goes to its owner. -/
def intTakes (row : RequestRow) (owner : Request → State → State) (s : State) : State :=
  match s.intHead with
  | none => s
  | some m =>
    if rowOf m = row then
      match decodeMessage m with
      | .bad reason => refuse (byteAt m 1) (byteAt m 2) reason s
      | .ok r => owner r s
    else s

/-! ## Data requests (R115, R118) -/

/-- Check 1 of R115: the refusal that the device state gives a data request. -/
def deviceRefusal (d : Device) : Option Reason :=
  match d with
  | .initializing => some .notReady
  | .unconfigured => some .notConfigured
  | .ready => none
  | _ => some .resting

/-- Check 2 of R115: the slot that a data request is for, or the refusal. -/
def dataSlot (s : State) (slot : Byte) : Except Reason SlotId :=
  match slotOf slot with
  | none => .error .noSession
  | some k =>
    match (s.slot k).state with
    | .opened => .ok k
    | .closing => .error .closing
    | _ => .error .noSession

/-- Checks 1 to 4 of R115 in order: the slot, or the first refusal. -/
def dataChecks (s : State) (slot tag : Byte) : Except Reason SlotId :=
  match deviceRefusal s.stc.device with
  | some r => .error r
  | none =>
    match dataSlot s slot with
    | .error r => .error r
    | .ok k =>
      if (s.slot k).window ≤ s.entryCount k then .error .windowFull
      else if s.tagInUse k tag then .error .duplicateTag
      else .ok k

/-- Checks 5 and 6 of R115 for a READ: the kind with its fields, or the refusal. -/
def readKind (address : Nat) (start length : Byte) : Except Reason EntryKind :=
  if 4194304 ≤ address then .error .badAddress
  else if 15 < start.toNat then .error .badField
  else match readLengthOf length with
    | none => .error .badField
    | some len => .ok (.read address (Fin.ofNat 16 start.toNat) len)

/-- Checks 5 and 6 of R115 for a WRITE. -/
def writeKind (address : Nat) (data : List Byte) : Except Reason EntryKind :=
  if 4194304 ≤ address then .error .badAddress else .ok (.write address data)

/-- Checks 5 and 6 of R115 for a MERGE. -/
def mergeKind (address : Nat) (mask data : List Byte) : Except Reason EntryKind :=
  if 4194304 ≤ address then .error .badAddress
  else if mask.all (fun b => b == 0#8) then .error .badField
  else .ok (.merge address mask data)

/-- The entry that an accepted request becomes: PROFILE_HELD while a profile is staged, released otherwise (R24). -/
def acceptedEntry (s : State) (key : EntryKey) (kind : EntryKind) : Entry :=
  if s.prf.staged.isSome then Entry.new key kind else releaseEntry s.prf.active (Entry.new key kind)

/-- An accepted data request: its entry is the youngest, its frame leaves the intake, a FENCE is checked for completion,
the lane it joins decides (R118, R24, R26). The frame departs before the reply of a FENCE that completes at once can enter
the outbound queue: DESIGN CHOICE, log entry 28. -/
def acceptEntry (key : EntryKey) (kind : EntryKind) (s : State) : State :=
  let t := depart { s with table := s.table ++ [acceptedEntry s key kind] }
  tellChanged s (completeFences (fun e => e.key == key) t)

/-- A data request that decodes: the checks of R115 in order, then the refusal or the entry (R117, R118). -/
def dataRequest (slot tag : Byte) (kind : Except Reason EntryKind) (s : State) : State :=
  match dataChecks s slot tag with
  | .error r => refuse slot tag r s
  | .ok k =>
    match kind with
    | .error r => refuse slot tag r s
    | .ok kind => acceptEntry { slot := k, tag := tag } kind s

/-- READ (R113 to R119). -/
def execRead (s : State) : Host.Outcome State Fault Refusal :=
  event (intTakes .read fun r s =>
    match r with
    | .read slot tag address start length => dataRequest slot tag (readKind address start length) s
    | _ => s) s

/-- WRITE (R122). -/
def execWrite (s : State) : Host.Outcome State Fault Refusal :=
  event (intTakes .write fun r s =>
    match r with
    | .write slot tag address data => dataRequest slot tag (writeKind address data) s
    | _ => s) s

/-- MERGE (R123). -/
def execMerge (s : State) : Host.Outcome State Fault Refusal :=
  event (intTakes .merge fun r s =>
    match r with
    | .merge slot tag address mask data => dataRequest slot tag (mergeKind address mask data) s
    | _ => s) s

/-- FENCE (R125). -/
def execFence (s : State) : Host.Outcome State Fault Refusal :=
  event (intTakes .fence fun r s =>
    match r with
    | .fence slot tag => dataRequest slot tag (.ok .fence) s
    | _ => s) s

/-! ## OPEN and CLOSE (R99 to R104) -/

/-- Check 1 of R99 and of R133: INITIALIZING refuses NOT_READY; RESTING, RETAINED and WAKING refuse RESTING. -/
def settledDeviceRefusal (d : Device) : Option Reason :=
  match d with
  | .initializing => some .notReady
  | .unconfigured => none
  | .ready => none
  | _ => some .resting

/-- The lowest-numbered FREE slot (R100). -/
def State.lowestFreeSlot (s : State) : Option SlotId := allSlots.find? (fun k => (s.slot k).state == .free)

/-- An accepted OPEN: the slot becomes OPEN with the smaller of the asked window and the pool, and OPENED is INT's reply
(R100). -/
def openSlot (k : SlotId) (asked : Nat) (order : ReplyOrder) (s : State) : State :=
  let window := min asked s.pool
  reply (.opened k window)
    (s.setSlot k { state := .opened, window := window, order := order, discarded := 0 })

/-- OPEN with its checks in order (R99). -/
def openRequest (window order : Byte) (s : State) : State :=
  match settledDeviceRefusal s.stc.device with
  | some r => refuse 0#8 0#8 r s
  | none =>
    match replyOrderOf order with
    | none => refuse 0#8 0#8 .badField s
    | some o =>
      if window.toNat = 0 ∨ 16 < window.toNat then refuse 0#8 0#8 .badField s
      else
        match s.lowestFreeSlot with
        | none => refuse 0#8 0#8 .noSlot s
        | some k => if s.pool = 0 then refuse 0#8 0#8 .noCredit s else openSlot k window.toNat o s

/-- OPEN (R100). -/
def execOpenSession (s : State) : Host.Outcome State Fault Refusal :=
  event (intTakes .openSession fun r s =>
    match r with
    | .openSession window order => openRequest window order s
    | _ => s) s

/-- The slot that a CLOSE closes, or the refusal: the checks of R102 in order. -/
def closeChecks (s : State) (slot : Byte) : Except Reason SlotId :=
  if s.stc.device = .initializing then .error .notReady
  else
    match slotOf slot with
    | none => .error .badField
    | some k =>
      match (s.slot k).state with
      | .opened => .ok k
      | .closing => .error .closing
      | _ => .error .noSession

/-- Whether CLOSE with discard frees an entry of the slot: PROFILE_HELD or QUEUED (R38). -/
def Entry.discardable (k : SlotId) (e : Entry) : Bool :=
  e.key.slot == k && (e.state == .profileHeld || e.state == .queued)

/-- A CLOSE without discard accepted: the slot becomes CLOSING with discard count 0, the frame leaves the intake, and a
slot without entries produces CLOSED at once (R103, R104). That the frame departs, with R151's test of the outbound queue,
before CLOSED can enter that queue is a DESIGN CHOICE, log entry 28. -/
def closeKeeping (k : SlotId) (s : State) : State :=
  closeIfDrained k (depart (s.setSlot k { s.slot k with state := .closing, discarded := 0 }))

/-- A CLOSE with discard accepted: the slot's PROFILE_HELD and QUEUED entries are freed and counted, its FENCEs are
checked, the lanes concerned decide (R38, R103, R104). The frame departs before CLOSED can enter the outbound queue:
DESIGN CHOICE, log entry 28. -/
def closeDiscarding (k : SlotId) (s : State) : State :=
  let n := (s.table.filter (Entry.discardable k)).length
  let t := s.setSlot k { s.slot k with state := .closing, discarded := n }
  let t := { t with table := s.table.filter (fun e => !e.discardable k) }
  let t := completeFences (Entry.chargedTo k) (depart t)
  tellChanged s (closeIfDrained k t)

/-- CLOSE: the refusal with the slot number as given and tag 0 (R102), or the close. -/
def closeRequest (slot : Byte) (close : SlotId → State → State) (s : State) : State :=
  match closeChecks s slot with
  | .error r => refuse slot 0#8 r s
  | .ok k => close k s

/-- CLOSE without the discard flag (R103). -/
def execCloseSession (s : State) : Host.Outcome State Fault Refusal :=
  event (intTakes .close fun r s =>
    match r with
    | .close slot _ => closeRequest slot closeKeeping s
    | _ => s) s

/-- CLOSE with the discard flag (R38, R103). -/
def execCloseWithDiscard (s : State) : Host.Outcome State Fault Refusal :=
  event (intTakes .closeWithDiscard fun r s =>
    match r with
    | .close slot _ => closeRequest slot closeDiscarding s
    | _ => s) s

/-! ## Profiles (R133 to R135, R144) -/

/-- An accepted SET PROFILE: staged in READY, its frame leaving the intake and every lane told (R135); in UNCONFIGURED
under processing until it is applied (R134). A staged profile's frame departs before a PROFILE APPLIED of the same event
can enter the outbound queue: DESIGN CHOICE, log entry 28. -/
def takeProfile (p : Profile) (s : State) : State :=
  match s.stc.device with
  | .unconfigured => { s with prf := { s.prf with processing := some p } }
  | _ => tell allLanes (depart { s with prf := { s.prf with staged := some p } })

/-- SET PROFILE with its checks in order (R133). -/
def setProfileRequest (record : List Byte) (s : State) : State :=
  match settledDeviceRefusal s.stc.device with
  | some r => refuse 0#8 0#8 r s
  | none =>
    if s.prf.staged.isSome then refuse 0#8 0#8 .profilePending s
    else
      match badProfileField record with
      | some n => reply (.refused 0#8 0#8 .badProfile n) s
      | none => takeProfile (profileOf record) s

/-- SET PROFILE (R133). -/
def execSetProfile (s : State) : Host.Outcome State Fault Refusal :=
  event (intTakes .setProfile fun r s =>
    match r with
    | .setProfile record => setProfileRequest record s
    | _ => s) s

/-- A request that every device state but INITIALIZING answers: refused NOT_READY there (R85, R86, R144, R180). -/
def unlessInitializing (answer : State → State) (s : State) : State :=
  if s.stc.device = .initializing then refuse 0#8 0#8 .notReady s else answer s

/-- GET PROFILE (R144). -/
def execGetProfile (s : State) : Host.Outcome State Fault Refusal :=
  event (intTakes .getProfile fun _ s => unlessInitializing produceProfileState s) s

/-! ## REST and WAKE (R168, R171, R172) -/

/-- REST (R168). The frame departs before a RESTED of the same event can enter the outbound queue: DESIGN CHOICE, log entry
28. -/
def restRequest (s : State) : State :=
  match s.stc.device with
  | .initializing => refuse 0#8 0#8 .notReady s
  | .unconfigured => refuse 0#8 0#8 .notConfigured s
  | .ready =>
    if s.prf.staged.isSome then refuse 0#8 0#8 .profilePending s
    else tell allLanes (depart { s with stc := { s.stc with device := .resting, restOwed := true } })
  | _ => refuse 0#8 0#8 .already s

/-- REST (R168). -/
def execRest (s : State) : Host.Outcome State Fault Refusal := event (intTakes .rest fun _ s => restRequest s) s

/-- A WAKE in RESTING cancels the rest: READY, REST CANCELLED if it is owed, then AWAKE (R172).
That the frame departs, with R151's test of the outbound queue, before the two can enter that queue is a DESIGN CHOICE, log
entry 28. -/
def cancelRest (s : State) : State :=
  let owed := s.stc.restOwed
  let s := depart { s with stc := { s.stc with device := .ready, restOwed := false } }
  let s := if owed then produce (.stc .restCancelled) s else s
  tell allLanes (produce (.stc .awake) s)

/-- WAKE by device state (R171, R172). -/
def wakeRequest (s : State) : State :=
  match s.stc.device with
  | .initializing => refuse 0#8 0#8 .notReady s
  | .resting => cancelRest s
  | .retained =>
    tell allLanes (depart { s with stc := { s.stc with device := .waking, wakeOwed := true, waking := true } })
  | _ => refuse 0#8 0#8 .already s

/-- WAKE (R171). -/
def execWake (s : State) : Host.Outcome State Fault Refusal := event (intTakes .wake fun _ s => wakeRequest s) s

/-! ## Status and tables (R178 to R181) -/

/-- The state of a lane as a snapshot reports it, with its page where it has one (R9). -/
def LaneState.report : LaneState → LaneCode × Option PageName
  | .closed => (.closed, none)
  | .opening p => (.opening, some p)
  | .held p => (.held, some p)
  | .access p _ _ _ => (.access, some p)
  | .closing p => (.closing, some p)
  | .restoring => (.restoring, none)

/-- What the snapshot reports of a lane (R178). -/
def State.laneReport (s : State) (a : LaneId) : LaneReport :=
  let l := s.lane a
  { code := l.state.report.1, page := l.state.report.2, queueLength := (s.laneQueue a).length, debt := l.debt
    forced := l.forced, sparesFree := l.spareCount .free, sparesInUse := l.spareCount .inUse
    sparesRetired := l.spareCount .retired, corrected := l.corrected, lost := l.lost, overruns := l.overruns }

/-- What the snapshot reports of a slot (R112). -/
def State.slotReport (s : State) (k : SlotId) : SlotReport :=
  { state := (s.slot k).state, window := (s.slot k).window, count := s.entryCount k, order := (s.slot k).order }

/-- The status snapshot (R178). -/
def State.snapshot (s : State) : Snapshot :=
  { device := s.stc.device
    activeLabel := s.prf.active.map (·.label)
    stagedLabel := s.prf.staged.map (·.label)
    band := s.rst.band
    lastReading := s.rst.lastReading
    pool := s.pool
    occupancy := s.table.length
    lanes :=
      ⟨s.laneReport 0, s.laneReport 1, s.laneReport 2, s.laneReport 3, s.laneReport 4, s.laneReport 5, s.laneReport 6,
        s.laneReport 7⟩
    slots := ⟨s.slotReport 0, s.slotReport 1, s.slotReport 2, s.slotReport 3⟩
    suspectOverflow := s.itg.overflow
    link := s.link.counters }

/-- Every counter of R179 set to 0. -/
def clearCounters (s : State) : State :=
  { s with
    lanes := s.lanes.map (fun l => { l with corrected := 0, lost := 0, overruns := 0 })
    itg := { s.itg with overflow := 0 }
    link := { s.link with counters := LinkCounters.zero } }

/-- GET STATUS with the clear-counters flag clear (R178). -/
def execGetStatus (s : State) : Host.Outcome State Fault Refusal :=
  event (intTakes .getStatus fun _ s => reply (.status s.snapshot) s) s

/-- GET STATUS with the clear-counters flag set: the snapshot is taken, then every counter is 0 (R179). -/
def execGetStatusClearCounters (s : State) : Host.Outcome State Fault Refusal :=
  event (intTakes .getStatusClearCounters fun _ s => reply (.status s.snapshot) (clearCounters s)) s

/-- The lane that a lane byte names, if it is 7 or less. -/
def laneOf (b : Byte) : Option LaneId := if h : b.toNat < 8 then some ⟨b.toNat, h⟩ else none

/-- GET TABLE by its table code (R180). -/
def getTableRequest (code lane : Byte) (s : State) : State :=
  unlessInitializing (fun s =>
    if code = 0#8 then reply (.suspectTable s.itg.suspects) s
    else if code = 1#8 then
      match laneOf lane with
      | none => refuse 0#8 0#8 .badField s
      | some a => reply (.remapTable a (s.lane a).remaps (s.lane a).spares) s
    else refuse 0#8 0#8 .badField s) s

/-- GET TABLE(SUSPECT), and GET TABLE with a code that names no table (R180). -/
def execGetTableSuspect (s : State) : Host.Outcome State Fault Refusal :=
  event (intTakes .getTableSuspect fun r s =>
    match r with
    | .getTable code lane => getTableRequest code lane s
    | _ => s) s

/-- GET TABLE(REMAP) (R180). -/
def execGetTableRemap (s : State) : Host.Outcome State Fault Refusal :=
  event (intTakes .getTableRemap fun r s =>
    match r with
    | .getTable code lane => getTableRequest code lane s
    | _ => s) s

/-! ## FORGET (R85, R86) -/

/-- The location that lane, page and line fields name, if each is in its range (R85). -/
def locationOf (lane : Byte) (page : Nat) (line : Byte) : Option Location :=
  match laneOf lane with
  | none => none
  | some a =>
    if hp : page < 16384 then
      if hl : line.toNat < 32 then some { lane := a, page := ⟨page, hp⟩, line := ⟨line.toNat, hl⟩ } else none
    else none

/-- FORGET(location) with its checks in order (R85). -/
def forgetRequest (lane : Byte) (page : Nat) (line : Byte) (s : State) : State :=
  unlessInitializing (fun s =>
    match locationOf lane page line with
    | none => refuse 0#8 0#8 .badField s
    | some loc =>
      if s.suspect loc then
        reply (.forgotten 1)
          { s with itg := { s.itg with suspects := s.itg.suspects.filter (fun r => r.location != loc) } }
      else refuse 0#8 0#8 .notSuspect s) s

/-- FORGET(location) (R85). -/
def execForget (s : State) : Host.Outcome State Fault Refusal :=
  event (intTakes .forget fun r s =>
    match r with
    | .forget lane page line => forgetRequest lane page line s
    | _ => s) s

/-- FORGET(ALL) (R86). -/
def execForgetAll (s : State) : Host.Outcome State Fault Refusal :=
  event (intTakes .forgetAll fun _ s =>
    unlessInitializing (fun s =>
      reply (.forgotten s.itg.suspects.length) { s with itg := { s.itg with suspects := [] } }) s) s

/-! ## Messages of no request kind (R184) -/

/-- UNKNOWN_KIND_MESSAGE: the decoding refuses it BAD_KIND, or BAD_LENGTH when it is empty (R184). -/
def execUnknownKindMessage (s : State) : Host.Outcome State Fault Refusal :=
  event (intTakes .unknownKind fun _ s => s) s

end Sys2Proof.Machine
end

