-- ==== Sys2Proof/Machine/Timers.lean ====
section
/-!
DEFINITION. The restoration timer, the temperature reading and wake (chapters 4 and 10), and the commands of the part's
own due steps.
-/
namespace Sys2Proof.Machine

/-! ## Restoration timer (R62 to R67) -/

/-- What an expiry does to a lane: below 7 the debt rises by 1 and the forced flag is set at D or more; at 7 an overrun
is counted (R63, R64, R67). -/
def Lane.expire (deferral : Nat) (l : Lane) : Lane :=
  if l.debt < 7 then
    { l with debt := l.debt + 1, forced := l.forced || decide ((deferral : Int) ≤ l.debt + 1) }
  else { l with overruns := bump l.overruns }

/-- The lanes whose debt stands at the cap: an expiry is an overrun for each (R63). -/
def State.atCap (s : State) : List LaneId := allLanes.filter (fun a => decide (7 ≤ (s.lane a).debt))

/-- A timer expiry (R63): every lane's debt, the overrun notices in ascending lane number (R64), the new period (R62);
then the lanes whose debt rose decide (R48). -/
def timerExpires (s : State) : State :=
  match s.rst.timer with
  | none => s
  | some p =>
    let t := { s with
      lanes := s.lanes.map (Lane.expire s.deferral)
      rst := { s.rst with timer := some s.nextPeriod }
      array := { s.array with elapsed := s.array.elapsed + p.tenths } }
    let t := s.atCap.foldl (fun t a => postNotice (.restorationOverrun a) t) t
    tell (allLanes.filter (fun a => decide ((s.lane a).debt < 7))) t

/-- RESTORATION_TIMER_EXPIRY (R63). -/
def execRestorationTimerExpiry (s : State) : Host.Outcome State Fault Refusal :=
  event (whileRunning timerExpires) s

/-! ## Temperature (R72 to R74) -/

/-- A die temperature as the part reads it: -40 to +125 (R72). -/
def readingOf (dieTemperature : Int) : Int := max (-40) (min 125 dieTemperature)

/-- The band after a reading (R73). -/
def bandAfter (band : Band) (reading : Int) : Band :=
  match band with
  | .cool => if 88 ≤ reading then .hot else .cool
  | .hot => if reading ≤ 82 then .cool else .hot

/-- The length of a reading interval that begins now (R72). -/
def State.nextInterval (s : State) : Interval := if s.stc.device = .retained then .eightMs else .oneMs

/-- A reading completes: it is recorded, the band is compared, TEMP_BAND is posted at a change, a new interval begins
(R72 to R74). -/
def readingCompletes (dieTemperature : Int) (s : State) : State :=
  match s.rst.interval with
  | none => s
  | some _ =>
    let reading := readingOf dieTemperature
    let band := bandAfter s.rst.band reading
    let t := { s with rst :=
      { s.rst with lastReading := some reading, band := band, interval := some s.nextInterval } }
    if band = s.rst.band then t else postNotice (.tempBand band) t

/-- TEMPERATURE_READING_COMPLETION (R73). -/
def execTemperatureReadingCompletion (dieTemperature : Int) (s : State) : Host.Outcome State Fault Refusal :=
  event (whileRunning (readingCompletes dieTemperature)) s

/-! ## Wake (R171) -/

/-- Wake completes: READY, AWAKE if it is owed, every lane told (R171). -/
def wakeCompletes (s : State) : State :=
  if s.stc.waking then
    let owed := s.stc.wakeOwed
    let s := { s with stc := { s.stc with device := .ready, waking := false, wakeOwed := false } }
    tell allLanes (if owed then produce (.stc .awake) s else s)
  else s

/-- WAKE_COMPLETION (R171). -/
def execWakeCompletion (s : State) : Host.Outcome State Fault Refusal := event (whileRunning wakeCompletes) s

/-! ## The part's own due steps -/

/-- PROFILE_APPLICATION (R134, R138). -/
def execProfileApplication (s : State) : Host.Outcome State Fault Refusal := internal .application s

/-- DRAIN_COMPLETE (R169). -/
def execDrainComplete (s : State) : Host.Outcome State Fault Refusal := internal .drain s

/-- INT_REPLY_GRANT (R114, R159). -/
def execIntReplyGrant (s : State) : Host.Outcome State Fault Refusal := internal .intReply s

/-- ENTRY_REPLY_GRANT (R33, R159). -/
def execEntryReplyGrant (s : State) : Host.Outcome State Fault Refusal := internal .entryReply s

/-- CLOSED_REPLY_GRANT (R105, R159). -/
def execClosedReplyGrant (s : State) : Host.Outcome State Fault Refusal := internal .closedReply s

/-- PROFILE_APPLIED_GRANT (R140, R159). -/
def execProfileAppliedGrant (s : State) : Host.Outcome State Fault Refusal := internal .profileApplied s

/-- STC_REPLY_GRANT (R159, R173). -/
def execStcReplyGrant (s : State) : Host.Outcome State Fault Refusal := internal .stcReply s

/-- NOTICE_GRANT (R159, R176). -/
def execNoticeGrant (s : State) : Host.Outcome State Fault Refusal := internal .notice s

end Sys2Proof.Machine
end

