-- ==== Sys2Proof/Machine/Dispatch.lean ====
section
/-!
DEFINITION. What each command does to everything but the queue: one arm per row of spec/opcode_table.json.
-/
namespace Sys2Proof.Machine

def exec (i : Instr) (s : State) : Host.Outcome State Fault Refusal :=
  match i with
  | .downSequencedFrame acknowledgement sequence message => Sys2Proof.Machine.execDownSequencedFrame acknowledgement sequence message s
  | .downFrameCheckFailed frame => Sys2Proof.Machine.execDownFrameCheckFailed frame s
  | .ack acknowledgement => Sys2Proof.Machine.execAck acknowledgement s
  | .resend acknowledgement n => Sys2Proof.Machine.execResend acknowledgement n s
  | .linkReset acknowledgement => Sys2Proof.Machine.execLinkReset acknowledgement s
  | .fullReset acknowledgement => Sys2Proof.Machine.execFullReset acknowledgement s
  | .resetNFall => Sys2Proof.Machine.execResetNFall s
  | .resetNRise => Sys2Proof.Machine.execResetNRise s
  | .powerUp => Sys2Proof.Machine.execPowerUp s
  | .supplyOutOfRange => Sys2Proof.Machine.execSupplyOutOfRange s
  | .read => Sys2Proof.Machine.execRead s
  | .write => Sys2Proof.Machine.execWrite s
  | .merge => Sys2Proof.Machine.execMerge s
  | .fence => Sys2Proof.Machine.execFence s
  | .openSession => Sys2Proof.Machine.execOpenSession s
  | .closeSession => Sys2Proof.Machine.execCloseSession s
  | .closeWithDiscard => Sys2Proof.Machine.execCloseWithDiscard s
  | .setProfile => Sys2Proof.Machine.execSetProfile s
  | .getProfile => Sys2Proof.Machine.execGetProfile s
  | .rest => Sys2Proof.Machine.execRest s
  | .wake => Sys2Proof.Machine.execWake s
  | .getStatus => Sys2Proof.Machine.execGetStatus s
  | .getStatusClearCounters => Sys2Proof.Machine.execGetStatusClearCounters s
  | .getTableSuspect => Sys2Proof.Machine.execGetTableSuspect s
  | .getTableRemap => Sys2Proof.Machine.execGetTableRemap s
  | .forget => Sys2Proof.Machine.execForget s
  | .forgetAll => Sys2Proof.Machine.execForgetAll s
  | .unknownKindMessage => Sys2Proof.Machine.execUnknownKindMessage s
  | .pageOpenCompletion lane => Sys2Proof.Machine.execPageOpenCompletion lane s
  | .readPhaseCompletion lane => Sys2Proof.Machine.execReadPhaseCompletion lane s
  | .writePhaseCompletion lane => Sys2Proof.Machine.execWritePhaseCompletion lane s
  | .writeBackPhaseCompletion lane => Sys2Proof.Machine.execWriteBackPhaseCompletion lane s
  | .pageCloseCompletion lane => Sys2Proof.Machine.execPageCloseCompletion lane s
  | .restorationStepCompletion lane => Sys2Proof.Machine.execRestorationStepCompletion lane s
  | .restorationTimerExpiry => Sys2Proof.Machine.execRestorationTimerExpiry s
  | .temperatureReadingCompletion dieTemperature => Sys2Proof.Machine.execTemperatureReadingCompletion dieTemperature s
  | .arrayInitializationCompletion => Sys2Proof.Machine.execArrayInitializationCompletion s
  | .wakeCompletion => Sys2Proof.Machine.execWakeCompletion s
  | .profileApplication => Sys2Proof.Machine.execProfileApplication s
  | .drainComplete => Sys2Proof.Machine.execDrainComplete s
  | .replayTimerExpiry => Sys2Proof.Machine.execReplayTimerExpiry s
  | .transmissionEnd => Sys2Proof.Machine.execTransmissionEnd s
  | .intReplyGrant => Sys2Proof.Machine.execIntReplyGrant s
  | .entryReplyGrant => Sys2Proof.Machine.execEntryReplyGrant s
  | .closedReplyGrant => Sys2Proof.Machine.execClosedReplyGrant s
  | .profileAppliedGrant => Sys2Proof.Machine.execProfileAppliedGrant s
  | .stcReplyGrant => Sys2Proof.Machine.execStcReplyGrant s
  | .noticeGrant => Sys2Proof.Machine.execNoticeGrant s
  | .lineDegradation line level dieTemperature => Sys2Proof.Machine.execLineDegradation line level dieTemperature s

end Sys2Proof.Machine
end

