-- ==== Sys2Proof/Safety.lean ====
section
/-!
DEFINITION. What the statements say of a state that the part can be in: the ranges and capacities of the manual, the
agreement between the in-flight table, the sessions and the lanes, and the canonical form of the array.
-/
namespace Sys2Proof.Machine

/-- The tables of the array are in canonical form: rising keys, no entry at the value that an unlisted key has. -/
abbrev State.arrayCanonical (s : State) : Prop :=
  Sparse.wf 0#8 s.array.cells = true ∧ Sparse.wf Damage.intact s.array.damage = true ∧
    Sparse.wf 0 s.array.restoredAt = true

/-- A profile that PRF may hold has a deferral limit of at least 1 (R131). -/
abbrev positiveDeferral (p : Option Profile) : Prop := p.all (fun q => decide (1 ≤ q.deferral)) = true

/-- Every lane's debt lies between -2 and +7; a step runs only at -1 or more, a forced flag stands only at 1 or more
(R49, R65, R67, R68). -/
abbrev State.debtsInRange (s : State) : Prop :=
  (∀ a : LaneId, -2 ≤ (s.lane a).debt ∧ (s.lane a).debt ≤ 7 ∧
      ((s.lane a).state = .restoring → -1 ≤ (s.lane a).debt) ∧ ((s.lane a).forced = true → 1 ≤ (s.lane a).debt)) ∧
    positiveDeferral s.prf.active ∧ positiveDeferral s.prf.staged ∧ positiveDeferral s.prf.processing

/-- The queues and lists hold no more than the manual gives them places for, and the sender's stall count and mode agree
(R148, R151, R154, R156, R158, R82, R175). -/
abbrev State.withinCapacity (s : State) : Prop :=
  s.link.intake.length ≤ 8 ∧ s.link.outbound.length ≤ 24 ∧ s.link.replay.length ≤ 16 ∧ s.snu.queue.length ≤ 8 ∧
    s.snu.lost ≤ 255 ∧ s.itg.suspects.length ≤ 16 ∧ s.link.stall ≤ 4 ∧
    (s.link.mode = .running → s.link.stall ≤ 3) ∧ (s.link.timer = true → s.link.mode = .running)

/-- The phase that lane `a` performs, if it performs one, is for an entry of the table that is ACTIVE and has its location
in the lane (R8, R28). -/
def State.servesEntry (s : State) (a : LaneId) : Bool :=
  match (s.lane a).state with
  | .access _ k _ _ =>
    s.table.any (fun e => e.key == k && e.state == .active && e.location.any (fun l => l.lane == a))
  | _ => true

/-- The in-flight table agrees with itself and with the lanes: no two entries share slot and tag (R22), every member of
the reply list is an entry in REPLY_WAIT (R30), and a lane's access phase is for an ACTIVE entry of its own (R8). -/
abbrev State.tableConsistent (s : State) : Prop :=
  (s.table.map (·.key)).Nodup ∧
    (∀ k ∈ s.replies, s.table.any (fun e => e.key == k && e.state == .replyWait) = true) ∧
    ∀ a : LaneId, s.servesEntry a = true

/-- The windows of the slots that are not FREE, summed (R97). -/
def State.windowSum (s : State) : Nat :=
  (allSlots.map (fun k => if (s.slot k).state = .free then 0 else (s.slot k).window)).sum

/-- The slot whose CLOSED reply a class 1 reply is, if it is one. -/
def Waiting.closes : Waiting → Option SlotId
  | .closed k _ => some k
  | _ => none

/-- The sessions agree with the table (R96 to R98, R104, R105): no slot has more entries than its window, the window of a
FREE slot is 0, the windows together are at most 48, and a CLOSED reply waits only for a CLOSING slot without entries,
once for each. -/
abbrev State.sessionsConsistent (s : State) : Prop :=
  (∀ k : SlotId, s.entryCount k ≤ (s.slot k).window ∧ ((s.slot k).state = .free → (s.slot k).window = 0)) ∧
    s.windowSum ≤ 48 ∧
    (∀ k ∈ s.waiting.filterMap Waiting.closes, (s.slot k).state = .closing ∧ s.entryCount k = 0) ∧
    (s.waiting.filterMap Waiting.closes).Nodup

/-- The commands of the part's own due steps: an application, the end of the drain, the grants. -/
def isDueStep : Instr → Bool
  | .profileApplication => true
  | .drainComplete => true
  | .intReplyGrant => true
  | .entryReplyGrant => true
  | .closedReplyGrant => true
  | .profileAppliedGrant => true
  | .stcReplyGrant => true
  | .noticeGrant => true
  | _ => false

/-- The command of a due step. -/
def Due.command : Due → Instr
  | .application => .profileApplication
  | .drain => .drainComplete
  | .intReply => .intReplyGrant
  | .closedReply => .closedReplyGrant
  | .profileApplied => .profileAppliedGrant
  | .stcReply => .stcReplyGrant
  | .entryReply => .entryReplyGrant
  | .notice => .noticeGrant

/-- The command of a row of requests. -/
def RequestRow.command : RequestRow → Instr
  | .read => .read
  | .write => .write
  | .merge => .merge
  | .fence => .fence
  | .openSession => .openSession
  | .close => .closeSession
  | .closeWithDiscard => .closeWithDiscard
  | .setProfile => .setProfile
  | .getProfile => .getProfile
  | .rest => .rest
  | .wake => .wake
  | .getStatus => .getStatus
  | .getStatusClearCounters => .getStatusClearCounters
  | .getTableSuspect => .getTableSuspect
  | .getTableRemap => .getTableRemap
  | .forget => .forget
  | .forgetAll => .forgetAll
  | .unknownKind => .unknownKindMessage

/-- The request that asks for an entry of a kind, with slot and tag (R113). -/
def EntryKind.request (slot tag : Byte) : EntryKind → Request
  | .read a start len => .read slot tag a (oneByte start.val) len.code
  | .write a data => .write slot tag a data
  | .merge a mask data => .merge slot tag a mask data
  | .fence => .fence slot tag

/-- The command of an entry's kind. -/
def EntryKind.command : EntryKind → Instr
  | .read _ _ _ => .read
  | .write _ _ => .write
  | .merge _ _ _ => .merge
  | .fence => .fence

/-- The fields of a kind pass checks 5 and 6 of R115 and fit the layout of section 12.3. -/
def EntryKind.acceptable : EntryKind → Bool
  | .read a _ _ => decide (a < 4194304)
  | .write a data => decide (a < 4194304) && data.length == 64
  | .merge a mask data =>
    decide (a < 4194304) && mask.length == 8 && data.length == 64 && mask.any (fun b => b != 0#8)
  | .fence => true

/-- Of a data request: its slot and tag, its line address where it has one, and whether check 6 of R115 fails. -/
def Request.dataFields : Request → Option (Byte × Byte × Option Nat × Bool)
  | .read slot tag a start len => some (slot, tag, some a, decide (15 < start.toNat) || decide (1 < len.toNat))
  | .write slot tag a _ => some (slot, tag, some a, false)
  | .merge slot tag a mask _ => some (slot, tag, some a, mask.all (fun b => b == 0#8))
  | .fence slot tag => some (slot, tag, none, false)
  | _ => none

/-- The part runs, neither an application nor the end of the drain is due, and the outbound queue has a free place: a
waiting producer is granted it (R159). -/
abbrev State.granting (s : State) : Prop :=
  s.running = true ∧ s.toApply = none ∧ s.drained = false ∧ s.link.outbound.length < 24

end Sys2Proof.Machine
end

