-- ==== Sys2Proof/Certificates/Slice0/Obligations.lean ====
section
/-!
DEFINITION. The statements about the model, one proposition each. A statement that rests on a choice of the model's names
the log entry of notes/assumptions/ that declares the choice.
-/
open Sys2Proof Sys2Proof.Machine

/-! ## The queue of commands and the due steps -/

/-- For every command c and state s: when c is at the front of the queue of waiting commands, step of s is exec of c on s
with the queue's rest. (95_what_each_step_holds.md) -/
def Obligations.StepRunsTheFrontCommand : Prop :=
  ∀ (c : Instr) (rest : List Instr) (s : State), s.pending = c :: rest → step s = exec c { s with pending := rest }

/-- The model's form of the due steps (log entries 1, 2 and 3): with no command waiting, a step takes the part's own due
steps (a profile's application, the end of the drain, the grants of the outbound arbiter, each followed by the
sender's choice) and nothing else. From every state they come to an end: in the state they end in, the sender has
nothing to choose and no step is due. A part that is held at reset or without supply is left as it was. (R159, R137,
R134, R169, R153) -/
def Obligations.IdleStepTakesTheDueStepsAndLeavesNothingDue : Prop :=
  ∀ s : State,
      (s.pending = [] → step s = .next (settle s)) ∧ (settle s).settled ∧ (s.settled → settle s = s) ∧
      (s.running = false → settle s = s)

/-- The model's choice (log entry 1): for every command that is not one of the part's own due steps and every state s,
exec on s is exec on the state after the due steps. The command of a due step leaves the state as it is in every state
in which that step is not the one due, whether nothing or another step is due. (R159, R137, R169,
95_what_each_step_holds.md) -/
def Obligations.EveryOtherCommandFindsTheDueStepsTaken : Prop :=
  (∀ (c : Instr) (s : State), isDueStep c = false → exec c s = exec c (settle s)) ∧
    (∀ c : Instr, isDueStep c = true ↔ ∃ d : Due, c = d.command) ∧
    ∀ (d : Due) (s : State), s.due ≠ some d → exec d.command s = .next s

/-- State.reset has every lane CLOSED with debt 0, forced flag clear, pointer 0, no remap record, every spare FREE and its
counts 0; four FREE slots with window 0; an empty in-flight table and reply list; no pending reply; the link values of
R160 with counters 0 and pending CREDIT set; the timer stopped, band COOL, no last reading and a 1 ms interval; an
empty suspect list; no profile; INITIALIZING with initialization in progress; an empty notice queue. (R9, R41, R76,
R94, R96, R110, R132, R160, R161, R163, R177, R114) -/
def Obligations.ResetValues : Prop :=
  let s := State.reset;
    (∀ a : LaneId, (s.lane a).state = .closed ∧ (s.lane a).debt = 0 ∧ (s.lane a).forced = false ∧
      (s.lane a).pointer = 0 ∧ (s.lane a).overruns = 0 ∧ (s.lane a).remaps = [] ∧
      (∀ i : SpareId, (s.lane a).spares.get i = .free) ∧ (s.lane a).exhausted = false ∧
      (s.lane a).corrected = 0 ∧ (s.lane a).lost = 0) ∧
    (∀ k : SlotId, (s.slot k).state = .free ∧ (s.slot k).window = 0 ∧ (s.slot k).order = .free ∧
      (s.slot k).discarded = 0 ∧ s.entryCount k = 0) ∧
    s.pool = 48 ∧ s.table = [] ∧ s.replies = [] ∧ s.waiting = [] ∧
    s.link.intake = [] ∧ s.link.outbound = [] ∧ s.link.replay = [] ∧ s.link.acknowledgedPoint = 255#8 ∧
    s.link.pointer = none ∧ s.link.timer = false ∧ s.link.stall = 0 ∧ s.link.mode = .running ∧
    s.link.expected = 0#8 ∧ s.link.nextUp = 0#8 ∧ s.link.release = 0#8 ∧ s.link.episode = false ∧
    s.link.pendingReject = none ∧ s.link.pendingCredit = true ∧ s.link.transmission = none ∧
    s.link.counters = LinkCounters.zero ∧
    s.rst = { timer := none, band := .cool, lastReading := none, interval := some .oneMs } ∧
    s.itg = { suspects := [], overflow := 0 } ∧ s.prf = { active := none, staged := none, processing := none } ∧
    s.stc = { device := .initializing, initializing := true, waking := false, restOwed := false, wakeOwed := false } ∧
    s.snu = { queue := [], lost := 0 }

/-! ## The address maps -/

/-- Under PAGE_MAJOR, host line address L names lane floor(L / 524,288), page floor((L mod 524,288) / 32) and line L mod
32; location (a, p, n) is named by a × 524,288 + p × 32 + n, which is a host line address, and by no other host line
address. (R3) -/
def Obligations.PageMajorMap : Prop :=
  (∀ L : Nat, L < 4194304 →
      (locate .pageMajor L).lane.val = L / 524288 ∧ (locate .pageMajor L).page.val = L % 524288 / 32 ∧
      (locate .pageMajor L).line.val = L % 32) ∧
    ∀ l : Location,
      l.lane.val * 524288 + l.page.val * 32 + l.line.val < 4194304 ∧
      locate .pageMajor (l.lane.val * 524288 + l.page.val * 32 + l.line.val) = l ∧
      ∀ L : Nat, L < 4194304 → locate .pageMajor L = l → L = l.lane.val * 524288 + l.page.val * 32 + l.line.val

/-- Under LANE_SPREAD, host line address L names line L mod 32, lane floor(L / 32) mod 8 and page floor(L / 256); location
(a, p, n) is named by p × 256 + a × 32 + n, which is a host line address, and by no other host line address. (R4) -/
def Obligations.LaneSpreadMap : Prop :=
  (∀ L : Nat, L < 4194304 →
      (locate .laneSpread L).line.val = L % 32 ∧ (locate .laneSpread L).lane.val = L / 32 % 8 ∧
      (locate .laneSpread L).page.val = L / 256) ∧
    ∀ l : Location,
      l.page.val * 256 + l.lane.val * 32 + l.line.val < 4194304 ∧
      locate .laneSpread (l.page.val * 256 + l.lane.val * 32 + l.line.val) = l ∧
      ∀ L : Nat, L < 4194304 → locate .laneSpread L = l → L = l.page.val * 256 + l.lane.val * 32 + l.line.val

/-! ## Read replies -/

/-- For a READ entry with start word k: with status LOST the DATA reply carries no words. Otherwise it carries 16 (FULL)
or 8 (SHORT) words of the line buffer, entry i being the word that R120's table gives for the word order; the first is
word k; a FULL reply carries every word of the line exactly once, a SHORT reply every word of the half that holds word
k exactly once; each word is carried with its byte 4w first. The reply that a grant to the table's candidate builds
uses the word order of the profile active at the grant. (R120) -/
def Obligations.ReadReplyWordOrder : Prop :=
  (∀ (order : WordOrder) (e : Entry) (address : Nat) (k : Fin 16) (length : ReadLength),
      e.kind = .read address k length →
      ∃ words : List Word,
        entryReply order e = .data e.key (e.outcome.getD .ok) k length words ∧
        (e.outcome = some .lost → words = []) ∧
        ∀ buffer : List Byte, e.buffer = some buffer → e.outcome ≠ some .lost →
          words.length = (match length with | .full => 16 | .short => 8) ∧
          words[0]? = some (lineWord buffer k.val) ∧
          ∀ i : Nat, i < words.length → words[i]? = some (lineWord buffer
            (match order, length with
              | .sequential, .full => (k.val + i) % 16
              | .sequential, .short => 8 * (k.val / 8) + (k.val % 8 + i) % 8
              | .interleaved, _ => k.val ^^^ i))) ∧
    (∀ (order : WordOrder) (k : Fin 16) (w : Nat),
      ((List.range 16).map (replyWord order k .full)).count w = (if w < 16 then 1 else 0) ∧
      ((List.range 8).map (replyWord order k .short)).count w = (if w / 8 = k.val / 8 then 1 else 0)) ∧
    (∀ (buffer : List Byte) (w : Nat), wordBytes (lineWord buffer w) =
      [byteAt buffer (4 * w), byteAt buffer (4 * w + 1), byteAt buffer (4 * w + 2), byteAt buffer (4 * w + 3)]) ∧
    ∀ (s : State) (e : Entry) (p : Profile), s.candidate = some e → s.prf.active = some p →
      (grantEntry s).link.outbound = s.link.outbound ++ [entryReply p.wordOrder e]

/-! ## Frames and messages -/

/-- Run over a run of bytes with its code behind it, the computation yields 0. Over the nine bytes 0x31 to 0x39 it yields
0x29B1. A frame passes its check exactly when it is some run of bytes with the code of that run behind it, most
significant byte first. (R185) -/
def Obligations.CheckCodeOfAFrame : Prop :=
  (∀ bytes : List Byte, crc16 (sealed bytes) = 0#16) ∧
    crc16 [0x31#8, 0x32#8, 0x33#8, 0x34#8, 0x35#8, 0x36#8, 0x37#8, 0x38#8, 0x39#8] = 0x29B1#16 ∧
    ∀ frame : List Byte, passesCheck frame = true ↔
      ∃ bytes : List Byte,
        frame = bytes ++ [(crc16 bytes).extractLsb' 8 8, (crc16 bytes).extractLsb' 0 8]

/-- For every sequenced frame with a message of at most 255 bytes and every ACK, RESEND, LINK RESET and FULL RESET, with
every field at every value: the receiver finds in its bytes exactly that frame, and its length is 6 + L or 6.
Conversely, bytes that are received as a sequenced frame or as a RESEND are the bytes of that frame. (R182, R145,
R146, R185) -/
def Obligations.DownFramesDecodeToWhatTheyCarry : Prop :=
  (∀ r : Received, (∀ link : Bool, r ≠ .failed link) →
      (∀ (k n : Byte) (m : List Byte), r = .sequenced k n m → m.length < 256) →
      receive (downFrame r) = r ∧
      (downFrame r).length = (match r with | .sequenced _ _ m => 6 + m.length | _ => 6)) ∧
    (∀ (frame : List Byte) (k n : Byte) (m : List Byte),
      receive frame = .sequenced k n m → m.length < 256 ∧ frame = downFrame (.sequenced k n m)) ∧
    ∀ (frame : List Byte) (k n : Byte), receive frame = .resend k n → frame = downFrame (.resend k n)

/-- A run of bytes is discarded exactly when it fails its check, is shorter than 6 bytes, has class 0x10 and a length
other than 6 + L, has a link class and a length other than 6 or a nonzero byte 3, or has a class byte that names no
down class. It counts as a lost link frame exactly when it has a class byte and that byte is 0x20, 0x21, 0x2E or 0x2F.
(R147, R182) -/
def Obligations.DownFramesThatAreDiscarded : Prop :=
  ∀ frame : List Byte,
      ((∃ link : Bool, receive frame = .failed link) ↔
        (passesCheck frame = false ∨ frame.length < 6 ∨
          (byteAt frame 0 = 0x10#8 ∧ frame.length ≠ 6 + (byteAt frame 3).toNat) ∨
          (byteAt frame 0 ∈ [0x20#8, 0x21#8, 0x2E#8, 0x2F#8] ∧ (frame.length ≠ 6 ∨ byteAt frame 3 ≠ 0#8)) ∨
          byteAt frame 0 ∉ [0x10#8, 0x20#8, 0x21#8, 0x2E#8, 0x2F#8])) ∧
      ∀ link : Bool, receive frame = .failed link →
        (link = true ↔ frame ≠ [] ∧ byteAt frame 0 ∈ [0x20#8, 0x21#8, 0x2E#8, 0x2F#8])

/-- For every request whose fields fit the layout of section 12.3, with every field at every value, decoding its bytes
gives that request. Conversely, a message that decodes to a request is the bytes of that request, and the request's
fields fit the layout: no byte of a message that decodes is dropped. (R183, R184) -/
def Obligations.RequestMessagesDecodeToWhatTheyCarry : Prop :=
  (∀ r : Request, r.wellFormed = true → decodeMessage r.bytes = .ok r) ∧
    ∀ (m : List Byte) (r : Request), decodeMessage m = .ok r → r.wellFormed = true ∧ r.bytes = m

/-- In a settled state in which INT can take the oldest frame of the intake: an empty message is refused BAD_LENGTH; one
whose byte 0 names no request kind BAD_KIND; one of another length than its kind's BAD_LENGTH; one of the right length
with a reserved byte or bit set, or a FORGET scope above 1, BAD_FIELD. The reply carries bytes 1 and 2 of the message,
or 0 for a byte it does not hold. Nothing else changes, and the command is the one of the row the message is given
(log entry 9). For UNKNOWN_KIND_MESSAGE this is its whole effect. (R184, R114) -/
def Obligations.MalformedMessagesAreRefused : Prop :=
  ∀ (m : List Byte) (s : State), s.settled → s.intHead = some m →
      (m = [] → exec .unknownKindMessage s = .next (refuse 0#8 0#8 .badLength s)) ∧
      (m ≠ [] → requestKind (byteAt m 0) = none →
        exec .unknownKindMessage s = .next (refuse (byteAt m 1) (byteAt m 2) .badKind s)) ∧
      ∀ k : RequestKind, m ≠ [] → byteAt m 0 = k.code →
        (m.length ≠ k.length →
          exec (rowOf m).command s = .next (refuse (byteAt m 1) (byteAt m 2) .badLength s)) ∧
        (m.length = k.length → reservedClear k m = false →
          exec (rowOf m).command s = .next (refuse (byteAt m 1) (byteAt m 2) .badField s))

/-- The 11 bytes of every profile in range have no bad field and give back that profile. A record with no bad field and
clear reserved bits is the record of the profile it gives, which is in range. The bad field reported is the
lowest-numbered one whose byte is outside the values of R131, or field 10 when the NOTICES_LOST enable is clear.
(R131, R133, R183) -/
def Obligations.ProfileRecordsDecode : Prop :=
  (∀ p : Profile, p.wellFormed = true →
      p.bytes.length = 11 ∧ badProfileField p.bytes = none ∧ profileOf p.bytes = p) ∧
    (∀ r : List Byte, r.length = 11 → (byteAt r 10).toNat < 64 → badProfileField r = none →
      (profileOf r).wellFormed = true ∧ (profileOf r).bytes = r) ∧
    ∀ (r : List Byte) (n : Nat),
      let bad : Nat → Prop := fun j =>
        (j ∈ [2, 3, 4, 7, 8, 9] ∧ 1 < (byteAt r j).toNat) ∨
        (j = 5 ∧ ((byteAt r 5).toNat = 0 ∨ 15 < (byteAt r 5).toNat)) ∨
        (j = 6 ∧ ((byteAt r 6).toNat = 0 ∨ 6 < (byteAt r 6).toNat)) ∨
        (j = 10 ∧ (byteAt r 10).getLsbD 5 = false);
      badProfileField r = some n ↔ bad n ∧ ∀ j : Nat, j < n → ¬ bad j

/-- Every reply and notice has the length and, but for STATUS, whose items StatusMessageLayout places, exactly the bytes
that the tables of section 12.4 give: kind code, slot number and tag or two zero bytes, then its fields and records,
numbers of two bytes the least significant first, an absent spare as 0xFF, an absent profile as 11 zero bytes; NOTICE
carries its kind's code and its payload. The codes of status, length, reply order, device, lane, slot and spare
states, band and refusal reason are those of section 12.5, and so are the codes in a profile's record. An up frame
carries its class, the expected down sequence and the release count it took at its transmission, its sequence number
or parameter, its message length, its message and the check code. (R146, R182, R183, R185,
12_frame_and_message_layouts.md, 12_frame_and_message_layouts.md) -/
def Obligations.MessageLengthsAndUpFrames : Prop :=
  (∀ m : Message, m.bytes.length =
      (match m with
        | .data _ _ _ _ words => 6 + 4 * words.length
        | .done _ _ _ => 5
        | .refused _ _ _ _ => 5
        | .opened _ _ => 4
        | .closed _ _ => 4
        | .profileApplied _ => 5
        | .profileState _ _ => 26
        | .rested => 3
        | .restCancelled => 3
        | .awake => 3
        | .status _ => 164
        | .suspectTable records => 4 + 5 * records.length
        | .remapTable _ records _ => 13 + 4 * records.length
        | .forgotten _ => 4
        | .notice _ => 8)) ∧
    (let byte : Nat → Byte := BitVec.ofNat 8;
      let two : Nat → List Byte := fun n => [byte n, byte (n / 256)];
      let number : SlotId → Byte := fun k => byte (k.val + 1);
      let flag : Bool → Byte := fun b => if b then 1#8 else 0#8;
      let place : Location → List Byte := fun l => byte l.lane.val :: two l.page.val ++ [byte l.line.val];
      let record : Option Profile → List Byte := fun p => match p with | none => List.replicate 11 0#8 | some p => p.bytes;
      (∀ (e : EntryKey) (result : Status) (start : Fin 16) (length : ReadLength) (words : List Word),
        (Message.data e result start length words).bytes =
          [0x81#8, number e.slot, e.tag, result.code, byte start.val, length.code] ++ words.flatMap wordBytes) ∧
      (∀ (e : EntryKey) (result : Status) (remapped : Bool),
        (Message.done e result remapped).bytes = [0x82#8, number e.slot, e.tag, result.code, flag remapped]) ∧
      (∀ (slot tag : Byte) (reason : Reason) (field : Nat),
        (Message.refused slot tag reason field).bytes = [0x83#8, slot, tag, reason.code, byte field]) ∧
      (∀ (k : SlotId) (n : Nat), (Message.opened k n).bytes = [0x90#8, number k, 0#8, byte n] ∧
        (Message.closed k n).bytes = [0x91#8, number k, 0#8, byte n]) ∧
      (∀ label : BitVec 16, (Message.profileApplied label).bytes = [0xA0#8, 0#8, 0#8] ++ two label.toNat) ∧
      (∀ active staged : Option Profile, (Message.profileState active staged).bytes =
        [0xA1#8, 0#8, 0#8, (if active.isSome then 1#8 else 0#8) + (if staged.isSome then 2#8 else 0#8)] ++
          record active ++ record staged) ∧
      Message.rested.bytes = [0xB0#8, 0#8, 0#8] ∧ Message.restCancelled.bytes = [0xB1#8, 0#8, 0#8] ∧
      Message.awake.bytes = [0xB2#8, 0#8, 0#8] ∧
      (∀ r : Snapshot, (Message.status r).bytes.take 3 = [0xC0#8, 0#8, 0#8]) ∧
      (∀ records : List Suspect, (Message.suspectTable records).bytes = [0xC1#8, 0#8, 0#8, byte records.length] ++
        records.flatMap (fun r => place r.location ++ [match r.spare with | none => 0xFF#8 | some i => byte i.val])) ∧
      (∀ (a : LaneId) (records : List Remap) (spares : Eight SpareState),
        (Message.remapTable a records spares).bytes = [0xC2#8, 0#8, 0#8, byte a.val, byte records.length] ++
          allLanes.map (fun i => (spares.get i).code) ++
          records.flatMap (fun r => two r.page.val ++ [byte r.line.val, byte r.spare.val])) ∧
      (∀ n : Nat, (Message.forgotten n).bytes = [0xC3#8, 0#8, 0#8, byte n]) ∧
      ∀ n : Notice, (Message.notice n).bytes = [0xE0#8, 0#8, 0#8] ++
        (match n with
          | .tempBand b => [1#8, b.code, 0#8, 0#8, 0#8]
          | .suspectAdded l => 2#8 :: place l
          | .suspectFull l => 3#8 :: place l
          | .sparesExhausted a => [4#8, byte a.val, 0#8, 0#8, 0#8]
          | .restorationOverrun a => [5#8, byte a.val, 0#8, 0#8, 0#8]
          | .noticesLost c => [6#8, byte c, 0#8, 0#8, 0#8])) ∧
    (∀ p : Profile, p.bytes = [BitVec.ofNat 8 p.label.toNat, BitVec.ofNat 8 (p.label.toNat / 256)] ++
      [match p.map with | .pageMajor => 0#8 | .laneSpread => 1#8, match p.policy with | .hold => 0#8 | .release => 1#8,
        match p.wordOrder with | .sequential => 0#8 | .interleaved => 1#8, BitVec.ofNat 8 p.ageCap,
        BitVec.ofNat 8 p.deferral, match p.hot with | .auto => 0#8 | .alwaysDouble => 1#8,
        if p.writeBack then 1#8 else 0#8, if p.remapping then 1#8 else 0#8, p.mask.byte]) ∧
    (∀ q : NoticeMask, (List.range 8).map q.byte.getLsbD =
      [q.tempBand, q.suspectAdded, q.suspectFull, q.sparesExhausted, q.restorationOverrun, q.noticesLost, false, false]) ∧
    ([Status.ok, .corrected, .lost].map Status.code = [0#8, 1#8, 2#8] ∧
      [ReadLength.full, .short].map ReadLength.code = [0#8, 1#8] ∧
      [ReplyOrder.ordered, .free].map ReplyOrder.code = [0#8, 1#8] ∧
      [Device.initializing, .unconfigured, .ready, .resting, .retained, .waking].map Device.code =
        [0#8, 1#8, 2#8, 3#8, 4#8, 5#8] ∧
      [LaneCode.closed, .opening, .held, .access, .closing, .restoring].map LaneCode.code =
        [0#8, 1#8, 2#8, 3#8, 4#8, 5#8] ∧
      [SlotState.free, .opened, .closing, .detached].map SlotState.code = [0#8, 1#8, 2#8, 3#8] ∧
      [SpareState.free, .inUse, .retired].map SpareState.code = [0#8, 1#8, 2#8] ∧
      [Band.cool, .hot].map Band.code = [0#8, 1#8] ∧
      [Reason.notReady, .notConfigured, .resting, .noSession, .closing, .windowFull, .duplicateTag, .badAddress,
          .badField, .badKind, .badLength, .noSlot, .noCredit, .profilePending, .badProfile, .already, .notSuspect].map
        Reason.code = [1#8, 2#8, 3#8, 4#8, 5#8, 6#8, 7#8, 8#8, 9#8, 10#8, 11#8, 12#8, 13#8, 14#8, 15#8, 16#8, 17#8]) ∧
    ∀ f : UpFrame,
      f.bytes = sealed
        (match f.content with
          | .credit => [0x60#8, f.expected, f.release, 0#8, 0#8]
          | .reject .crc => [0x61#8, f.expected, f.release, 1#8, 0#8]
          | .reject .order => [0x61#8, f.expected, f.release, 2#8, 0#8]
          | .reject .full => [0x61#8, f.expected, f.release, 3#8, 0#8]
          | .message n m => [0x50#8, f.expected, f.release, n, oneByte m.bytes.length] ++ m.bytes)

/-- In the 164 bytes of a STATUS message the device state is byte 3, the profile state byte 4, the labels bytes 5 to 8,
temperature bytes 9 to 11, pool and occupancy bytes 12 and 13; the 9 bytes of lane a stand from 14 + 9a, the 4 bytes
of the slot with index k from 86 + 4k, the 6 counter bytes of lane a from 102 + 6a, and the seven device counters from
150. (R178, R183) -/
def Obligations.StatusMessageLayout : Prop :=
  ∀ r : Snapshot,
      let b := (Message.status r).bytes;
      byteAt b 0 = 0xC0#8 ∧ byteAt b 1 = 0#8 ∧ byteAt b 2 = 0#8 ∧ byteAt b 3 = r.device.code ∧
      byteAt b 4 = (if r.activeLabel.isSome then (if r.stagedLabel.isSome then 2#8 else 1#8) else 0#8) ∧
      twoBytesAt b 5 = (r.activeLabel.getD 0#16).toNat ∧ twoBytesAt b 7 = (r.stagedLabel.getD 0#16).toNat ∧
      byteAt b 9 = r.band.code ∧ byteAt b 10 = (if r.lastReading.isSome then 1#8 else 0#8) ∧
      byteAt b 11 = BitVec.ofInt 8 (r.lastReading.getD 0) ∧
      byteAt b 12 = oneByte r.pool ∧ byteAt b 13 = oneByte r.occupancy ∧
      (∀ a : LaneId, let n := r.lanes.get a;
        byteAt b (14 + 9 * a.val) = n.code.code ∧
        twoBytesAt b (15 + 9 * a.val) =
          (match n.page with | none => 0 | some (.page p) => p.val | some .spareRow => 0xFFFF) ∧
        byteAt b (17 + 9 * a.val) = oneByte n.queueLength ∧ byteAt b (18 + 9 * a.val) = BitVec.ofInt 8 n.debt ∧
        byteAt b (19 + 9 * a.val) = (if n.forced then 1#8 else 0#8) ∧
        byteAt b (20 + 9 * a.val) = oneByte n.sparesFree ∧ byteAt b (21 + 9 * a.val) = oneByte n.sparesInUse ∧
        byteAt b (22 + 9 * a.val) = oneByte n.sparesRetired ∧
        byteAt b (102 + 6 * a.val) = oneByte n.corrected ∧ byteAt b (103 + 6 * a.val) = oneByte (n.corrected / 256) ∧
        byteAt b (104 + 6 * a.val) = oneByte n.lost ∧ byteAt b (105 + 6 * a.val) = oneByte (n.lost / 256) ∧
        byteAt b (106 + 6 * a.val) = oneByte n.overruns ∧ byteAt b (107 + 6 * a.val) = oneByte (n.overruns / 256)) ∧
      (∀ k : SlotId, let n := r.slots.get k;
        byteAt b (86 + 4 * k.val) = n.state.code ∧ byteAt b (87 + 4 * k.val) = oneByte n.window ∧
        byteAt b (88 + 4 * k.val) = oneByte n.count ∧ byteAt b (89 + 4 * k.val) = n.order.code) ∧
      [twoBytesAt b 150, twoBytesAt b 152, twoBytesAt b 154, twoBytesAt b 156, twoBytesAt b 158, twoBytesAt b 160,
        twoBytesAt b 162] =
        [r.suspectOverflow, r.link.crc, r.link.duplicate, r.link.reject, r.link.ackRange, r.link.resendIgnored,
          r.link.replayExpiry].map (· % 65536)

/-! ## The frame link -/

/-- An acknowledgement that names a frame of the replay list removes it and every older frame, sets the stall count to 0
and the mode to RUNNING, runs the timer exactly if frames are left, and moves a replay pointer that named a removed
frame to the oldest frame left. One that names the acknowledged point changes nothing. Any other raises the ack-range
counter only. Counters rise by one and stay at 65,535. (R152, R162) -/
def Obligations.AcknowledgementRemovesFramesAndMakesProgress : Prop :=
  (∀ (l : Link) (k : Byte),
      (∀ (older newer : List Sent) (f : Sent), l.replay = older ++ f :: newer → f.sequence = k →
        (∀ o ∈ older, o.sequence ≠ k) →
        l.acknowledge k = { l with
          replay := newer
          stall := 0
          mode := .running
          timer := !newer.isEmpty
          pointer := l.pointer.bind (fun n =>
            if n ∈ newer.map (·.sequence) then some n else (newer.map (·.sequence)).head?) }) ∧
      ((∀ f ∈ l.replay, f.sequence ≠ k) →
        let point := match l.replay with | [] => l.nextUp - 1#8 | f :: _ => f.sequence - 1#8;
        (k = point → l.acknowledge k = l) ∧
        (k ≠ point →
          l.acknowledge k = { l with counters := { l.counters with ackRange := bump l.counters.ackRange } }))) ∧
    ∀ n : Nat, n ≤ 65535 → bump n = min (n + 1) 65535

/-- In a settled state of a running part, a sequenced frame has its acknowledgement applied; then with d the distance from
the expected sequence: d = 0 with room is accepted at the tail of the intake, the expected sequence rises and an
episode ends; d = 0 at a full intake begins an episode with REJECT(FULL), or changes nothing in one; d from 1 to 127
the same with ORDER; d from 128 up raises the duplicate counter. Nothing else changes but what the sender then begins.
(R148, R149, R152, R162, R153) -/
def Obligations.SequencedFrameIsJudgedByItsDistance : Prop :=
  ∀ (acknowledgement sequence : Byte) (message : List Byte) (s : State),
      s.settled → s.running = true → message.length < 256 →
      let c := exec (.downSequencedFrame acknowledgement sequence message) s;
      let l := s.link.acknowledge acknowledgement;
      let d := (sequence.toNat + 256 - l.expected.toNat) % 256;
      (d = 0 → l.intake.length < 8 → c = .next (kick { s with link := { l with
        intake := l.intake ++ [message], expected := l.expected + 1#8, episode := false } })) ∧
      (l.episode = true → (d = 0 ∧ 8 ≤ l.intake.length ∨ 1 ≤ d ∧ d ≤ 127) → c = .next (kick { s with link := l })) ∧
      (l.episode = false → d = 0 → 8 ≤ l.intake.length → c = .next (kick { s with link := { l with
        episode := true, pendingReject := some .full
        counters := { l.counters with reject := bump l.counters.reject } } })) ∧
      (l.episode = false → 1 ≤ d → d ≤ 127 → c = .next (kick { s with link := { l with
        episode := true, pendingReject := some .order
        counters := { l.counters with reject := bump l.counters.reject } } })) ∧
      (128 ≤ d → c = .next (kick { s with link := { l with
        counters := { l.counters with duplicate := bump l.counters.duplicate } } }))

/-- In a settled state of a running part, bytes that are discarded raise the CRC counter. When they count as a lost link
frame, or an episode is running, nothing more happens; otherwise an episode begins with REJECT(CRC) and the reject
counter rises. The acknowledgement they carry is not applied. (R147, R149, R162, R182) -/
def Obligations.FailedFrameIsCountedAndReportedOnce : Prop :=
  ∀ (frame : List Byte) (link : Bool) (s : State), s.settled → s.running = true → receive frame = .failed link →
      let c := exec (.downFrameCheckFailed frame) s;
      let l := s.link;
      (link = true ∨ l.episode = true → c = .next (kick { s with link := { l with
        counters := { l.counters with crc := bump l.counters.crc } } })) ∧
      (link = false → l.episode = false → c = .next (kick { s with link := { l with
        episode := true, pendingReject := some .crc
        counters := { l.counters with crc := bump l.counters.crc, reject := bump l.counters.reject } } }))

/-- In a settled state of a running part, ACK applies its acknowledgement and sets pending CREDIT; nothing else changes
but what the sender then begins. With the channel idle and no REJECT pending, a CREDIT frame is being sent after it.
(R150, R152, R153) -/
def Obligations.AckIsAnsweredWithCredit : Prop :=
  ∀ (k : Byte) (s : State), s.settled → s.running = true →
      exec (.ack k) s = .next (kick { s with link := { s.link.acknowledge k with pendingCredit := true } }) ∧
      (s.link.transmission = none → s.link.pendingReject = none →
        ∃ t : State, exec (.ack k) s = .next t ∧
          t.link.transmission = some { content := .credit, expected := s.link.expected, release := s.link.release })

/-- In a settled state of a running part, after its acknowledgement is applied: n naming a frame of the replay list
removes every older frame and sets the replay pointer to n; n naming the next up sequence empties the list and clears
the pointer; both are progress. Any other n raises the resend-ignored counter only. (R157, R152, R155, R162) -/
def Obligations.ResendIsTakenOrIgnored : Prop :=
  ∀ (k n : Byte) (s : State), s.settled → s.running = true →
      let c := exec (.resend k n) s;
      let l := s.link.acknowledge k;
      (∀ (older newer : List Sent) (f : Sent), l.replay = older ++ f :: newer → f.sequence = n →
        (∀ o ∈ older, o.sequence ≠ n) → c = .next (kick { s with link := { l with
          replay := f :: newer, pointer := some n, stall := 0, mode := .running, timer := true } })) ∧
      ((∀ f ∈ l.replay, f.sequence ≠ n) → n = l.nextUp → c = .next (kick { s with link := { l with
          replay := [], pointer := none, stall := 0, mode := .running, timer := false } })) ∧
      ((∀ f ∈ l.replay, f.sequence ≠ n) → n ≠ l.nextUp → c = .next (kick { s with link := { l with
          counters := { l.counters with resendIgnored := bump l.counters.resendIgnored } } }))

/-- While the channel is busy, or the part is held or without supply, the sender chooses nothing. Otherwise it begins,
with the expected sequence and release count of that moment, the first that applies: the pending REJECT, clearing it;
a CREDIT if one is pending, clearing it; in RUNNING the frame at the replay pointer, moving the pointer to the next
newer frame; in RUNNING without a pointer and with fewer than 16 frames listed, the oldest outbound frame, which takes
the next up sequence, joins the replay list and starts the timer of an empty list. A choice changes the link only.
(R153, R154, R155, R156, R146, R161) -/
def Obligations.SenderChoosesByPriority : Prop :=
  ∀ s : State,
      let l := s.link;
      (s.running = false ∨ l.transmission ≠ none → kick s = s) ∧
      (s.running = true → l.transmission = none →
        (∀ r : RejectReason, l.pendingReject = some r → kick s = { s with link := { l with
          pendingReject := none
          transmission := some { content := .reject r, expected := l.expected, release := l.release } } }) ∧
        (l.pendingReject = none → l.pendingCredit = true → kick s = { s with link := { l with
          pendingCredit := false
          transmission := some { content := .credit, expected := l.expected, release := l.release } } }) ∧
        (l.pendingReject = none → l.pendingCredit = false → l.mode = .stalled → kick s = s) ∧
        (l.pendingReject = none → l.pendingCredit = false → l.mode = .running →
          (∀ (n : Byte) (older newer : List Sent) (f : Sent), l.pointer = some n → l.replay = older ++ f :: newer →
            f.sequence = n → (∀ o ∈ older, o.sequence ≠ n) → kick s = { s with link := { l with
              pointer := newer.head?.map (·.sequence)
              transmission := some
                { content := .message f.sequence f.message, expected := l.expected, release := l.release } } }) ∧
          (∀ (m : Message) (ms : List Message), l.pointer = none → l.outbound = m :: ms → l.replay.length < 16 →
            kick s = { s with link := { l with
              outbound := ms
              replay := l.replay ++ [{ sequence := l.nextUp, message := m }]
              nextUp := l.nextUp + 1#8
              timer := l.timer || l.replay.isEmpty
              transmission := some
                { content := .message l.nextUp m, expected := l.expected, release := l.release } } }) ∧
          (l.pointer = none → l.outbound = [] ∨ 16 ≤ l.replay.length → kick s = s)))

/-- In a settled state of a running part: the end of a transmission leaves the channel to the sender's choice. An expiry
of the running replay timer raises the stall count and the replay-expiry counter; at a stall count of 1 to 3 the
replay pointer is set to the oldest frame of the list and the timer runs on, at 4 the sender is STALLED, with no
pointer and the timer stopped. (R153, R156, R155, R162) -/
def Obligations.EndOfATransmissionAndExpiryOfTheReplayTimer : Prop :=
  ∀ s : State, s.settled → s.running = true →
      let l := s.link;
      exec .transmissionEnd s = .next (kick { s with link := { l with transmission := none } }) ∧
      (l.timer = true →
        (l.stall < 3 → exec .replayTimerExpiry s = .next (kick { s with link := { l with
          stall := l.stall + 1
          counters := { l.counters with replayExpiry := bump l.counters.replayExpiry }
          pointer := l.replay.head?.map (·.sequence) } })) ∧
        (l.stall = 3 → exec .replayTimerExpiry s = .next (kick { s with link := { l with
          stall := 4, mode := .stalled, pointer := none, timer := false
          counters := { l.counters with replayExpiry := bump l.counters.replayExpiry } } })))

/-- In a settled state of a running part, after a LINK RESET a CREDIT with expected sequence 0 and release count 0 is
being sent and LNK otherwise has the values of R160 with its counters kept; no reply is pending; only the ACTIVE
entries are left, as orphans, and the reply list is empty; an OPEN or CLOSING slot with such an entry is DETACHED with
discard count 0, without one FREE, other slots stay; no profile is staged or under processing and the active one
stays; the owed flags are clear, the device state stays; the notice queue is empty. RST, ITG and the array are
unchanged. Of a lane only its state may change, and only of an idle lane. A lane whose queue lost an entry, and every
lane when a staged profile is discarded, takes the state that its decision gives it in the state after the reset;
every other lane stays as it was. (R160, R39, R107, R141, R173, R177, R114, R9, R77, R94, R44, R48) -/
def Obligations.LinkResetReachesEveryBlock : Prop :=
  ∀ (k : Byte) (s : State), s.settled → s.running = true →
      ∃ t : State, exec (.linkReset k) s = .next t ∧
        t.link = { Link.afterReset (s.link.acknowledge k).counters with
          pendingCredit := false, transmission := some { content := .credit, expected := 0#8, release := 0#8 } } ∧
        t.waiting = [] ∧ t.replies = [] ∧
        t.table = (s.table.filter (fun e => e.state == .active)).map (fun e => { e with orphan := true }) ∧
        (∀ j : SlotId, t.slot j =
          (if (s.slot j).state = .opened ∨ (s.slot j).state = .closing then
            (if s.table.any (fun e => e.key.slot == j && e.state == .active) then
              { s.slot j with state := .detached, discarded := 0 } else Slot.unused)
          else s.slot j)) ∧
        t.prf = { active := s.prf.active, staged := none, processing := none } ∧
        t.stc = { s.stc with restOwed := false, wakeOwed := false } ∧ t.snu = { queue := [], lost := 0 } ∧
        t.rst = s.rst ∧ t.itg = s.itg ∧ t.array = s.array ∧ t.pins = s.pins ∧ t.pending = s.pending ∧ t.draws = s.draws ∧
        ∀ a : LaneId, t.lane a = { s.lane a with state := (t.lane a).state } ∧
          ((s.lane a).state.idle = false → t.lane a = s.lane a) ∧
          let u : State := { t with lanes := s.lanes };
          t.lane a =
            (if s.prf.staged.isSome = true ∨ (s.laneQueue a).map (·.key) ≠ (u.laneQueue a).map (·.key) then
              (decideLane u a).lane a else s.lane a)

/-! ## Full reset and the supplies -/

/-- In a settled state of a running part, a FULL RESET frame gives every block the values of the state after reset, with a
CREDIT of expected sequence 0 and release count 0 already being sent. The pins stay. The array stays as it was until
initialization completes (the model's choice, log entry 20), but for lines whose writing was interrupted, whose
content is undefined (free values, log entry 5). (R164, R150, R161, R163, R18, R72, R76, R2) -/
def Obligations.FullResetGivesEveryBlockItsResetValues : Prop :=
  ∀ (k : Byte) (s : State), s.settled → s.running = true →
      exec (.fullReset k) s = .next { State.reset with
        pending := s.pending
        pins := s.pins
        array := (spoilWrites s).array
        draws := (spoilWrites s).draws
        link := { Link.afterReset LinkCounters.zero with
          pendingCredit := false, transmission := some { content := .credit, expected := 0#8, release := 0#8 } } }

/-- With no WRITE or WRITE_BACK phase in progress a full reset leaves the array as it is until initialization. Every byte
outside the 64 bytes of the lines that such phases reach reads as before, and so does the damage level of every other
line. (R18, R164, R2) -/
def Obligations.InterruptedWritesSpoilTheirOwnLineOnly : Prop :=
  ∀ s : State,
      ((∀ a : LaneId, (s.lane a).state.writing = none) → spoilWrites s = s) ∧
      (∀ address : Nat,
        (∀ (a : LaneId) (l : ArrayLine), (s.lane a).state.writing = some l →
          address < lineBase l ∨ lineBase l + 64 ≤ address) →
        (spoilWrites s).array.byte address = s.array.byte address) ∧
      ∀ line : ArrayLine, (∀ a : LaneId, (s.lane a).state.writing ≠ some line) →
        (spoilWrites s).array.level line = s.array.level line

/-- At the fall of RESET_N a supplied part takes the reset values in every block and is held: no reading interval runs and
nothing is sent. The array stays (log entry 20), but for lines whose writing was interrupted (free values, log entry
5). While it is held, no frame, completion, expiry, reading or request acts, nor does a command for an event that
cannot occur (log entry 4). At the rise a 1 ms reading interval begins and the sender starts: from the values of R160
it begins a CREDIT. Without supply only the pin moves (log entry 7). (R164, R161, R72, R76, R18) -/
def Obligations.ResetPinHoldsThePartAndReleasesIt : Prop :=
  ∀ s : State,
      (s.settled → s.pins = { supplied := true, resetN := true } →
        exec .resetNFall s = .next { State.reset with
          pending := s.pending
          pins := { supplied := true, resetN := false }
          array := (spoilWrites s).array
          draws := (spoilWrites s).draws
          rst := { State.reset.rst with interval := none } }) ∧
      (s.pins = { supplied := true, resetN := false } →
        exec .resetNRise s = .next (kick { s with
          pins := { supplied := true, resetN := true }, rst := { s.rst with interval := some .oneMs } }) ∧
        (s.link = Link.afterReset LinkCounters.zero → ∃ t : State, exec .resetNRise s = .next t ∧
          t.link.transmission = some { content := .credit, expected := 0#8, release := 0#8 }) ∧
        ∀ c : Instr, c ∉ [.resetNRise, .supplyOutOfRange] → exec c s = .next s) ∧
      (s.pins = { supplied := false, resetN := true } →
        exec .resetNFall s = .next { s with pins := { supplied := false, resetN := false } }) ∧
      (s.pins = { supplied := false, resetN := false } →
        exec .resetNRise s = .next { s with pins := { supplied := false, resetN := true } })

/-- When a supply leaves its range, every value is lost: the model keeps the reset values standing (log entry 7), and the
array's content is a new set of free values (log entry 5). While a supply is out of range the part takes no frame and
sends nothing: the sender chooses nothing, and every command but the power-up and the two of the pin leaves the state
as it is (log entry 4 for events that cannot occur). When both supplies are back, the part takes the reset values:
with RESET_N high it runs and sends a CREDIT, with RESET_N low it is held. (R165, R164, R2, R72, R161) -/
def Obligations.SuppliesLostAndRestored : Prop :=
  ∀ s : State,
      (s.settled → s.pins.supplied = true →
        exec .supplyOutOfRange s = .next { State.reset with
          pending := s.pending
          pins := { s.pins with supplied := false }
          rst := { State.reset.rst with interval := none }
          array := { State.reset.array with undefinedDraw := some s.draws }
          draws := s.draws + 1 }) ∧
      (s.pins.supplied = false → kick s = s ∧
        ∀ c : Instr, c ∉ [.powerUp, .resetNFall, .resetNRise] → exec c s = .next s) ∧
      (s.pins = { supplied := false, resetN := true } →
        exec .powerUp s = .next { State.reset with
          pending := s.pending
          array := (spoilWrites s).array
          draws := (spoilWrites s).draws
          link := { Link.afterReset LinkCounters.zero with
            pendingCredit := false, transmission := some { content := .credit, expected := 0#8, release := 0#8 } } }) ∧
      (s.pins = { supplied := false, resetN := false } →
        exec .powerUp s = .next { State.reset with
          pending := s.pending
          pins := { supplied := true, resetN := false }
          array := (spoilWrites s).array
          draws := (spoilWrites s).draws
          rst := { State.reset.rst with interval := none } })

/-! ## Requests -/

/-- INT can take the message at the head of the intake exactly when the part runs, no reply of INT's waits and no SET
PROFILE is under processing. In a settled state, the command of a request row for which INT can take no message, or
whose row is not that of the message at the head, leaves the state as it is (the model's choice, log entries 4 and
10). (R114, R134) -/
def Obligations.IntTakesOneFrameAtATime : Prop :=
  (∀ (s : State) (m : List Byte), s.intHead = some m ↔
      s.running = true ∧ (∀ w ∈ s.waiting, ∀ r : Message, w ≠ .int r) ∧ s.prf.processing = none ∧
        ∃ rest : List (List Byte), s.link.intake = m :: rest) ∧
    ∀ (row : RequestRow) (s : State), s.settled → (∀ m : List Byte, s.intHead = some m → rowOf m ≠ row) →
      exec row.command s = .next s

/-- In a settled READY state, when INT takes a READ, WRITE, MERGE or FENCE for an OPEN slot below its window, with a tag
not in use and sound address and fields: its entry is the youngest of the table and the frame leaves the intake. With
a profile staged it is PROFILE_HELD. Otherwise a READ, WRITE or MERGE is QUEUED at the location that the active map
gives its address, and that lane alone decides; a FENCE is FENCE_WAIT, or in REPLY_WAIT with outcome OK and at the
tail of the reply list when every older entry of its slot has ended its array work. Nothing else changes but what the
lane and the sender then begin. The frame leaves before a reply of the same event enters the outbound queue (the
model's choice, log entry 28). (R118, R115, R24, R20, R21, R5, R26, R125, R48, R151, R126) -/
def Obligations.DataRequestAccepted : Prop :=
  ∀ (kind : EntryKind) (k : SlotId) (tag : Byte) (s : State), s.settled →
      s.intHead = some (kind.request (slotByte k) tag).bytes → kind.acceptable = true →
      s.stc.device = .ready → (s.slot k).state = .opened → s.entryCount k < (s.slot k).window →
      s.tagInUse k tag = false →
      let key : EntryKey := { slot := k, tag := tag };
      let e : Entry := {
        key := key, kind := kind, location := none, buffer := none, state := .profileHeld, passes := 0, found := none
        outcome := none, remapped := false, orphan := false };
      (s.prf.staged.isSome = true → exec kind.command s = .next (kick (depart { s with table := s.table ++ [e] }))) ∧
      (s.prf.staged = none → ∀ (p : Profile) (address : Nat), s.prf.active = some p → kind.address = some address →
        exec kind.command s = .next (kick (decideLane
          (depart { s with table := s.table ++ [{ e with state := .queued, location := some (locate p.map address) }] })
          (locate p.map address).lane))) ∧
      (s.prf.staged = none → kind = .fence →
        ((∀ o ∈ s.table, o.key.slot = k → o.state = .replyWait) → exec kind.command s = .next (kick (depart { s with
          table := s.table ++ [{ e with state := .replyWait, outcome := some .ok }]
          replies := s.replies ++ [key] }))) ∧
        ((∃ o ∈ s.table, o.key.slot = k ∧ o.state ≠ .replyWait) →
          exec kind.command s = .next (kick (depart { s with table := s.table ++ [{ e with state := .fenceWait }] }))))

/-- In a settled state, when INT takes a READ, WRITE, MERGE or FENCE that decodes, the first check of R115 that fails
gives the refusal: the device state, the slot, the window (a count at or above it, log entry 26), the tag, the
address, the fields. The REFUSED reply with the slot and tag of the request becomes INT's pending reply, and nothing
else changes. (R115, R117, R114) -/
def Obligations.DataRequestRefusedByTheFirstCheckThatFails : Prop :=
  ∀ (r : Request) (slot tag : Byte) (address : Option Nat) (badField : Bool) (s : State), s.settled →
      r.wellFormed = true → r.dataFields = some (slot, tag, address, badField) → s.intHead = some r.bytes →
      let refused : Reason → Prop := fun reason => exec (rowOf r.bytes).command s =
        .next { s with waiting := s.waiting ++ [.int (.refused slot tag reason 0)] };
      (s.stc.device = .initializing → refused .notReady) ∧
      (s.stc.device = .unconfigured → refused .notConfigured) ∧
      (s.stc.device ∈ [.resting, .retained, .waking] → refused .resting) ∧
      (s.stc.device = .ready →
        (slot.toNat = 0 ∨ 4 < slot.toNat → refused .noSession) ∧
        ∀ k : SlotId, slot = slotByte k →
          ((s.slot k).state = .free ∨ (s.slot k).state = .detached → refused .noSession) ∧
          ((s.slot k).state = .closing → refused .closing) ∧
          ((s.slot k).state = .opened →
            ((s.slot k).window ≤ s.entryCount k → refused .windowFull) ∧
            (s.entryCount k < (s.slot k).window →
              (s.tagInUse k tag = true → refused .duplicateTag) ∧
              (s.tagInUse k tag = false →
                (∀ a : Nat, address = some a → 4194304 ≤ a → refused .badAddress) ∧
                ((∀ a : Nat, address = some a → a < 4194304) → badField = true → refused .badField)))))

/-- In a settled state, when INT takes an OPEN in UNCONFIGURED or READY with an asked window from 1 to 16 and a known
reply order, and slot k is the lowest-numbered FREE slot and the pool is not 0: slot k is OPEN with the smaller of the
asked window and the pool, the asked order and discard count 0; OPENED is INT's pending reply; nothing else changes,
and the pool is lower by the window granted. Otherwise the refusal is NOT_READY or RESTING by the device state, else
BAD_FIELD, else NO_SLOT, else NO_CREDIT, with slot 0 and tag 0, and nothing else changes. (R99, R100, R97, R96) -/
def Obligations.OpenGrantsTheLowestFreeSlot : Prop :=
  ∀ (window order : Byte) (s : State), s.settled → s.intHead = some (Request.openSession window order).bytes →
      let refused : Reason → Prop := fun reason => exec .openSession s =
        .next { s with waiting := s.waiting ++ [.int (.refused 0#8 0#8 reason 0)] };
      let badField : Prop := window.toNat = 0 ∨ 16 < window.toNat ∨ 1 < order.toNat;
      (s.stc.device = .initializing → refused .notReady) ∧
      (s.stc.device ∈ [.resting, .retained, .waking] → refused .resting) ∧
      (s.stc.device ∈ [.unconfigured, .ready] →
        (badField → refused .badField) ∧
        (¬ badField → (∀ k : SlotId, (s.slot k).state ≠ .free) → refused .noSlot) ∧
        (¬ badField → (∃ k : SlotId, (s.slot k).state = .free) → s.pool = 0 → refused .noCredit) ∧
        ∀ (o : ReplyOrder) (k : SlotId), ¬ badField → order = o.code → s.pool ≠ 0 → (s.slot k).state = .free →
          (∀ j : SlotId, j < k → (s.slot j).state ≠ .free) →
          ∃ t : State, exec .openSession s = .next t ∧
            t = { s with
              slots := s.slots.set k (⟨.opened, min window.toNat s.pool, o, 0⟩ : Slot)
              waiting := s.waiting ++ [.int (.opened k (min window.toNat s.pool))] } ∧
            t.pool = s.pool - min window.toNat s.pool)

/-- In a settled state outside INITIALIZING, when INT takes a CLOSE without discard of an OPEN slot: the slot is CLOSING
with discard count 0 and keeps its window and order, the frame leaves the intake (before CLOSED enters the outbound
queue, the model's choice, log entry 28), no entry is touched, and CLOSED with 0 discarded is produced at once exactly
when the slot has no entries. A CLOSE of either form is refused NOT_READY in INITIALIZING; else BAD_FIELD for a slot
number of 0 or above 4; else NO_SESSION for a FREE or DETACHED slot; else CLOSING for a CLOSING one; the reply carries
the slot number as given and tag 0, and nothing else changes. (R102, R103, R104, R151, R114) -/
def Obligations.CloseDrainsTheSlotOrIsRefused : Prop :=
  (∀ (k : SlotId) (s : State), s.settled → s.intHead = some (Request.close (slotByte k) false).bytes →
      s.stc.device ≠ .initializing → (s.slot k).state = .opened →
      let t := depart { s with slots := s.slots.set k { s.slot k with state := .closing, discarded := 0 } };
      (s.entryCount k ≠ 0 → exec .closeSession s = .next (kick t)) ∧
      (s.entryCount k = 0 → exec .closeSession s = .next (kick { t with waiting := s.waiting ++ [.closed k 0] }))) ∧
    ∀ (slot : Byte) (discard : Bool) (s : State), s.settled → s.intHead = some (Request.close slot discard).bytes →
      let refused : Reason → Prop := fun reason =>
        exec (if discard then .closeWithDiscard else .closeSession) s =
          .next { s with waiting := s.waiting ++ [.int (.refused slot 0#8 reason 0)] };
      (s.stc.device = .initializing → refused .notReady) ∧
      (s.stc.device ≠ .initializing →
        (slot.toNat = 0 ∨ 4 < slot.toNat → refused .badField) ∧
        ∀ k : SlotId, slot = slotByte k →
          ((s.slot k).state = .free ∨ (s.slot k).state = .detached → refused .noSession) ∧
          ((s.slot k).state = .closing → refused .closing))

/-- In a settled state outside INITIALIZING, when INT takes a CLOSE with discard of an OPEN slot: exactly the slot's
PROFILE_HELD and QUEUED entries leave the table, and the slot is CLOSING with their number as discard count, its
window and order kept; other slots stay; the slot's FENCEs that wait only on discarded or ended entries complete with
outcome OK and join the reply list in order, the others stay; CLOSED with that number is produced exactly when no
entry of the slot is left; the frame leaves the intake (before CLOSED enters the outbound queue, the model's choice,
log entry 28); the array and the lanes that perform an operation are unchanged. An ACTIVE entry and one in REPLY_WAIT
stay as they are. Each lane whose queue has changed, and each with an entry that has become eligible, decides, in
ascending number (log entry 11). Nothing else changes but what these lanes begin and the sender's choice. (R38, R103,
R104, R37, R26, R27, R48, R151, R98) -/
def Obligations.CloseWithDiscardFreesTheWorkNotBegun : Prop :=
  ∀ (k : SlotId) (s : State), s.settled → (s.table.map (·.key)).Nodup →
      s.intHead = some (Request.close (slotByte k) true).bytes → s.stc.device ≠ .initializing → (s.slot k).state = .opened →
      let gone : Entry → Bool := fun e =>
        e.key.slot == k && (e.state == .profileHeld || e.state == .queued);
      let n := (s.table.filter gone).length;
      ∃ (t : State) (fences : List EntryKey), exec .closeWithDiscard s = .next t ∧
        (let u : State := { s with
          table := (s.table.filter (fun e => !gone e)).map (fun x =>
            if x.key ∈ fences then { x with state := .replyWait, outcome := some .ok } else x)
          replies := s.replies ++ fences
          slots := s.slots.set k { s.slot k with state := .closing, discarded := n }
          waiting := s.waiting ++ (if s.entryCount k = n then [.closed k n] else [])
          link := { s.link with
            intake := s.link.intake.tail
            release := s.link.release + 1#8
            pendingCredit := s.link.pendingCredit || s.link.outbound.isEmpty } };
        t = kick (tell (allLanes.filter (fun b => decide (
          (s.laneQueue b).map (·.key) ≠ (u.laneQueue b).map (·.key) ∨
          ∃ x ∈ u.eligible b, ∀ y ∈ s.eligible b, y.key ≠ x.key))) u)) ∧
        t.table.map (·.key) = (s.table.filter (fun e => !gone e)).map (·.key) ∧
        (∀ e ∈ s.table, e.state = .active ∨ e.state = .replyWait → e ∈ t.table) ∧
        fences.Sublist (s.table.map (·.key)) ∧ t.replies = s.replies ++ fences ∧
        (∀ (older younger : List Entry) (x : Entry), s.table = older ++ x :: younger →
          (x.key ∈ fences ↔ x.kind = .fence ∧ x.state = .fenceWait ∧ x.key.slot = k ∧ ∀ o ∈ older, o.key.slot = k →
            gone o = true ∨ o.state = .replyWait ∨ (o.kind = .fence ∧ o.state = .fenceWait))) ∧
        (∀ x ∈ s.table, x.state = .fenceWait →
          (if x.key ∈ fences then { x with state := .replyWait, outcome := some .ok } else x) ∈ t.table) ∧
        t.slots = s.slots.set k { s.slot k with state := .closing, discarded := n } ∧
        t.waiting = s.waiting ++ (if s.entryCount k = n then [.closed k n] else []) ∧
        t.link.intake = s.link.intake.tail ∧ t.link.release = s.link.release + 1#8 ∧
        t.array = s.array ∧ t.prf = s.prf ∧ t.stc = s.stc ∧ t.rst = s.rst ∧ t.pins = s.pins ∧ t.pending = s.pending ∧
        ∀ a : LaneId, (s.lane a).state.idle = false → t.lane a = s.lane a

/-- In a settled state, when INT takes a SET PROFILE: in READY with none staged, a profile in range becomes the staged
one, the frame leaves the intake (before a PROFILE APPLIED of the same event enters the outbound queue, the model's
choice, log entry 28) and every lane decides; in UNCONFIGURED it is under processing and its frame stays. It is
refused NOT_READY in INITIALIZING, RESTING in RESTING, RETAINED and WAKING, else PROFILE_PENDING while one is staged,
else BAD_PROFILE naming its lowest-numbered bad field, with slot 0 and tag 0, and nothing else changes. (R133, R134,
R135, R131, R151, R48) -/
def Obligations.SetProfileStagedOrTakenInUnconfigured : Prop :=
  (∀ (p : Profile) (s : State), p.wellFormed = true → s.settled →
      s.intHead = some (Request.setProfile p.bytes).bytes → s.prf.staged = none →
      (s.stc.device = .ready → exec .setProfile s =
        .next (kick (tell allLanes (depart { s with prf := { s.prf with staged := some p } })))) ∧
      (s.stc.device = .unconfigured →
        exec .setProfile s = .next { s with prf := { s.prf with processing := some p } })) ∧
    ∀ (record : List Byte) (s : State), s.settled → (Request.setProfile record).wellFormed = true →
      s.intHead = some (Request.setProfile record).bytes →
      let refused : Reason → Nat → Prop := fun reason field => exec .setProfile s =
        .next { s with waiting := s.waiting ++ [.int (.refused 0#8 0#8 reason field)] };
      (s.stc.device = .initializing → refused .notReady 0) ∧
      (s.stc.device ∈ [.resting, .retained, .waking] → refused .resting 0) ∧
      (s.stc.device ∈ [.unconfigured, .ready] →
        (s.prf.staged.isSome = true → refused .profilePending 0) ∧
        ∀ n : Nat, s.prf.staged = none → badProfileField record = some n → refused .badProfile n)

/-- In a settled state, when INT takes the request: REST in READY with no profile staged makes the device RESTING with the
rest reply owed; WAKE in RETAINED makes it WAKING with wake in progress and its reply owed; WAKE in RESTING makes it
READY, producing REST CANCELLED if it was owed and AWAKE after it. In each the frame leaves the intake (before a reply
produced at the event enters the outbound queue, the model's choice, log entry 28) and every lane decides. REST is
refused PROFILE_PENDING in READY with one staged, NOT_READY in INITIALIZING, NOT_CONFIGURED in UNCONFIGURED, ALREADY
elsewhere; WAKE is refused NOT_READY in INITIALIZING and ALREADY in UNCONFIGURED, READY and WAKING; with slot 0 and
tag 0, and nothing else changes. (R168, R171, R172, R151, R173, R48) -/
def Obligations.RestBeginsTheDrainAndWakeEndsTheRest : Prop :=
  ∀ s : State, s.settled →
      let refused : Instr → Reason → Prop := fun c reason => exec c s =
        .next { s with waiting := s.waiting ++ [.int (.refused 0#8 0#8 reason 0)] };
      (s.intHead = some Request.rest.bytes →
        (s.stc.device = .ready → s.prf.staged = none → exec .rest s =
          .next (kick (tell allLanes (depart { s with stc := { s.stc with device := .resting, restOwed := true } })))) ∧
        (s.stc.device = .ready → s.prf.staged.isSome = true → refused .rest .profilePending) ∧
        (s.stc.device = .initializing → refused .rest .notReady) ∧
        (s.stc.device = .unconfigured → refused .rest .notConfigured) ∧
        (s.stc.device ∈ [.resting, .retained, .waking] → refused .rest .already)) ∧
      (s.intHead = some Request.wake.bytes →
        (s.stc.device = .retained → exec .wake s = .next (kick (tell allLanes (depart
          { s with stc := { s.stc with device := .waking, wakeOwed := true, waking := true } })))) ∧
        (s.stc.device = .resting → exec .wake s = .next (kick (tell allLanes (depart { s with
          stc := { s.stc with device := .ready, restOwed := false }
          waiting := s.waiting ++ (if s.stc.restOwed then [.stc .restCancelled] else []) ++ [.stc .awake] })))) ∧
        (s.stc.device = .initializing → refused .wake .notReady) ∧
        (s.stc.device ∈ [.unconfigured, .ready, .waking] → refused .wake .already))

/-- In a settled state, when INT takes a GET STATUS, the snapshot of that moment becomes INT's pending reply: the device
state, the labels, band and last reading, pool, occupancy, every lane's state, page, queue length, debt, forced flag,
spares and counts, every slot's state, window, count and order, the counters. Without the flag nothing else changes.
With it, every counter of R179 is 0 afterwards and nothing else changes. (R178, R179, R9, R42, R97, R112, R114) -/
def Obligations.StatusAnswersAndCountersCleared : Prop :=
  ∀ s : State, s.settled →
      ∃ r : Snapshot,
        (s.intHead = some (Request.getStatus false).bytes →
          exec .getStatus s = .next { s with waiting := s.waiting ++ [.int (.status r)] }) ∧
        (s.intHead = some (Request.getStatus true).bytes →
          exec .getStatusClearCounters s = .next { s with
            waiting := s.waiting ++ [.int (.status r)]
            lanes := s.lanes.map (fun l => { l with corrected := 0, lost := 0, overruns := 0 })
            itg := { s.itg with overflow := 0 }
            link := { s.link with counters := LinkCounters.zero } }) ∧
        r.device = s.stc.device ∧ r.activeLabel = s.prf.active.map (·.label) ∧
        r.stagedLabel = s.prf.staged.map (·.label) ∧ r.band = s.rst.band ∧ r.lastReading = s.rst.lastReading ∧
        r.pool = 48 - s.windowSum ∧ r.occupancy = s.table.length ∧
        (∀ a : LaneId, let n := r.lanes.get a;
          (n.code, n.page) = (match (s.lane a).state with
            | .closed => (.closed, none)
            | .opening p => (.opening, some p)
            | .held p => (.held, some p)
            | .access p _ _ _ => (.access, some p)
            | .closing p => (.closing, some p)
            | .restoring => (.restoring, none)) ∧
          n.queueLength = (s.table.filter (fun e =>
            (e.state == .queued || e.state == .active) && e.location.any (fun l => l.lane == a))).length ∧
          n.debt = (s.lane a).debt ∧ n.forced = (s.lane a).forced ∧
          n.sparesFree = (s.lane a).spares.toList.count .free ∧
          n.sparesInUse = (s.lane a).spares.toList.count .inUse ∧
          n.sparesRetired = (s.lane a).spares.toList.count .retired ∧
          n.corrected = (s.lane a).corrected ∧ n.lost = (s.lane a).lost ∧ n.overruns = (s.lane a).overruns) ∧
        (∀ k : SlotId, let n := r.slots.get k;
          n.state = (s.slot k).state ∧ n.window = (s.slot k).window ∧ n.order = (s.slot k).order ∧
          n.count = (s.table.filter (fun e => e.key.slot == k)).length) ∧
        r.suspectOverflow = s.itg.overflow ∧ r.link = s.link.counters

/-- In a settled state, when INT takes the request: GET PROFILE is answered with the active and the staged profile, a
reply that joins the class 1 list at its tail or, when PROFILE APPLIED replies stand last in it, before none, some or
all of those (a free value, log entry 29); GET TABLE(SUSPECT) is answered with the suspect list, GET TABLE(REMAP) of a
lane of 0 to 7 with that lane's remap records and spare states; in INITIALIZING each is refused NOT_READY; else a
table code above 1 (under the command of GET TABLE(SUSPECT), the model's choice, log entry 9), or a REMAP lane above
7, is refused BAD_FIELD. Refusals carry slot 0 and tag 0. Nothing else changes. (R144, R180, R181, R95, R114) -/
def Obligations.ProfileAndTablesAnswered : Prop :=
  ∀ s : State, s.settled →
      let answer : Instr → Message → Prop := fun c m =>
        exec c s = .next { s with waiting := s.waiting ++ [.int m] };
      let initializing : Prop := s.stc.device = .initializing;
      (s.intHead = some Request.getProfile.bytes →
        (initializing → answer .getProfile (.refused 0#8 0#8 .notReady 0)) ∧
        (¬ initializing → ∀ before after : List Waiting, s.waiting = before ++ after →
          (∀ w ∈ after, ∃ label : BitVec 16, w = .profileApplied label) →
          (∀ label : BitVec 16, before.getLast? ≠ some (.profileApplied label)) →
          (after = [] → answer .getProfile (.profileState s.prf.active s.prf.staged)) ∧
          (after ≠ [] →
            let unpassed := after.length - Config.profileAppliedPassed s.draws;
            exec .getProfile s = .next { s with
              waiting := before ++ after.take unpassed ++
                .int (.profileState s.prf.active s.prf.staged) :: after.drop unpassed
              draws := s.draws + 1 }))) ∧
      (s.intHead = some (Request.getTable 0#8 0#8).bytes →
        (initializing → answer .getTableSuspect (.refused 0#8 0#8 .notReady 0)) ∧
        (¬ initializing → answer .getTableSuspect (.suspectTable s.itg.suspects))) ∧
      (∀ lane : Byte, s.intHead = some (Request.getTable 1#8 lane).bytes →
        (initializing → answer .getTableRemap (.refused 0#8 0#8 .notReady 0)) ∧
        (∀ a : LaneId, ¬ initializing → lane = oneByte a.val →
          answer .getTableRemap (.remapTable a (s.lane a).remaps (s.lane a).spares)) ∧
        (¬ initializing → 7 < lane.toNat → answer .getTableRemap (.refused 0#8 0#8 .badField 0))) ∧
      ∀ code lane : Byte, 1 < code.toNat → s.intHead = some (Request.getTable code lane).bytes →
        (initializing → answer .getTableSuspect (.refused 0#8 0#8 .notReady 0)) ∧
        (¬ initializing → answer .getTableSuspect (.refused 0#8 0#8 .badField 0))

/-- In a settled state, when INT takes a FORGET of one location: in INITIALIZING it is refused NOT_READY; else with a lane
above 7, a page above 16,383 or a line above 31 BAD_FIELD; else NOT_SUSPECT when the list holds no record for the
location; else its records are removed, the others keep their order, and FORGOTTEN(1) is INT's pending reply. Refusals
carry slot 0 and tag 0. The suspect-overflow count, remap records and spare states stay, and no lane decides. (R85,
R82, R84, R114) -/
def Obligations.ForgetRemovesOneSuspect : Prop :=
  ∀ (lane : Byte) (page : Nat) (line : Byte) (s : State), s.settled → page < 65536 →
      s.intHead = some (Request.forget lane page line).bytes →
      let refused : Reason → Prop := fun reason => exec .forget s =
        .next { s with waiting := s.waiting ++ [.int (.refused 0#8 0#8 reason 0)] };
      (s.stc.device = .initializing → refused .notReady) ∧
      (s.stc.device ≠ .initializing →
        (7 < lane.toNat ∨ 16383 < page ∨ 31 < line.toNat → refused .badField) ∧
        ∀ l : Location, lane.toNat = l.lane.val → page = l.page.val → line.toNat = l.line.val →
          ((∀ r ∈ s.itg.suspects, r.location ≠ l) → refused .notSuspect) ∧
          ((∃ r ∈ s.itg.suspects, r.location = l) → exec .forget s = .next { s with
            itg := { s.itg with suspects := s.itg.suspects.filter (fun r => r.location ≠ l) }
            waiting := s.waiting ++ [.int (.forgotten 1)] }))

/-- In a settled state, when INT takes a FORGET(ALL): in INITIALIZING it is refused NOT_READY with nothing else changed.
In every other device state the suspect list is empty, FORGOTTEN with the number of records removed, 0 for an empty
list and at most 16 within capacity, is INT's pending reply, and nothing else changes. After a FORGET of either form,
whatever it did, the suspect-overflow count is as before. (R86) -/
def Obligations.ForgetAllEmptiesTheSuspectList : Prop :=
  (∀ s : State, s.settled → s.intHead = some Request.forgetAll.bytes →
      (s.stc.device = .initializing → exec .forgetAll s =
        .next { s with waiting := s.waiting ++ [.int (.refused 0#8 0#8 .notReady 0)] }) ∧
      (s.stc.device ≠ .initializing → exec .forgetAll s = .next { s with
        itg := { s.itg with suspects := [] }
        waiting := s.waiting ++ [.int (.forgotten s.itg.suspects.length)] })) ∧
    (∀ s : State, s.withinCapacity → s.itg.suspects.length ≤ 16) ∧
    ∀ (s t : State), s.settled → (exec .forget s = .next t ∨ exec .forgetAll s = .next t) →
      t.itg.overflow = s.itg.overflow

/-! ## The array and the lanes -/

/-- In an array with defined content and in canonical form, a line written with 64 bytes reads back as those bytes with no
damage, and every other line, host-addressable or spare, reads as before with its damage level. A restoration step
changes no byte and no level. After initialization every line reads as 64 zero bytes with no damage. (R1, R13, R14,
R16, R2) -/
def Obligations.LinesWrittenReadBackAndLeaveTheOthers : Prop :=
  (∀ (m : Storage) (l : ArrayLine) (bytes : List Byte), m.undefinedDraw = none → Sparse.wf 0#8 m.cells = true →
      Sparse.wf Damage.intact m.damage = true → bytes.length = 64 →
      (m.write l bytes).line l = bytes ∧ (m.write l bytes).level l = .intact ∧
      ∀ j : ArrayLine, j ≠ l → (m.write l bytes).line j = m.line j ∧ (m.write l bytes).level j = m.level j) ∧
    (∀ (m : Storage) (a : LaneId) (p : Fin 16384) (l : ArrayLine),
      (m.step a p).line l = m.line l ∧ (m.step a p).level l = m.level l) ∧
    ∀ l : ArrayLine, Storage.initialized.line l = List.replicate 64 0#8 ∧ Storage.initialized.level l = .intact

/-- An entry is eligible in a lane exactly when it is QUEUED with its location in the lane, and no entry older than it
that has not ended its array work names the same host line address or is a FENCE of its slot. The eligible set stands
in acceptance order. (R45, R25, R26, R43) -/
def Obligations.EligibleEntriesAreTheUnblockedQueuedOnes : Prop :=
  ∀ (s : State) (a : LaneId),
      (∀ e : Entry, e ∈ s.eligible a ↔ ∃ older younger : List Entry, s.table = older ++ e :: younger ∧
        e.state = .queued ∧ (∃ l : Location, e.location = some l ∧ l.lane = a) ∧
        ∀ o ∈ older, o.state ≠ .replyWait →
          (∀ address : Nat, ¬ (o.kind.address = some address ∧ e.kind.address = some address)) ∧
          ¬ (o.kind = .fence ∧ o.key.slot = e.key.slot)) ∧
      (s.eligible a).Sublist s.table

/-- A lane that is not idle decides nothing. With the forced flag set, HELD closes and CLOSED restores. Otherwise with E
the eligible set and o its oldest: in HELD(p) an o that targets p is served with no passes; an o at the age cap
closes; else the oldest entry of E that targets p is served and the entries of E before it are passed; else E not
empty closes; E empty closes at a debt of 1 or more, with a profile staged, in RESTING or under RELEASE, and stays
otherwise. In CLOSED, E not empty opens o's target; a debt of 1 or more restores; a debt of -1 or 0 restores when
pull-in is allowed (READY, none staged); else the lane stays. (R48, R49, R50, R51, R52, R53, R54, R55, R56) -/
def Obligations.SchedulerDecidesByTheFirstTestThatHolds : Prop :=
  ∀ (s : State) (a : LaneId),
      let l := s.lane a;
      let d := s.decision a;
      (l.state.idle = false → d = .stay) ∧
      (∀ p : PageName, l.state = .held p →
        (l.forced = true → d = .close) ∧
        (l.forced = false →
          (∀ (o : Entry) (es : List Entry), s.eligible a = o :: es →
            (s.targetOf o = some p → d = .serve o.key []) ∧
            (s.targetOf o ≠ some p → s.atAgeCap o.passes = true → d = .close) ∧
            (s.targetOf o ≠ some p → s.atAgeCap o.passes = false →
              ((∀ e ∈ es, s.targetOf e ≠ some p) → d = .close) ∧
              ∀ (before after : List Entry) (h : Entry), es = before ++ h :: after → s.targetOf h = some p →
                (∀ e ∈ before, s.targetOf e ≠ some p) → ((o :: es).map (·.key)).Nodup →
                d = .serve h.key (o.key :: before.map (·.key)))) ∧
          (s.eligible a = [] →
            (1 ≤ l.debt ∨ s.prf.staged.isSome = true ∨ s.stc.device = .resting ∨ s.releasePolicy = true → d = .close) ∧
            (l.debt < 1 → s.prf.staged = none → s.stc.device ≠ .resting → s.releasePolicy = false → d = .stay)))) ∧
      (l.state = .closed →
        (l.forced = true → d = .restore) ∧
        (l.forced = false →
          (∀ (o : Entry) (es : List Entry) (p : PageName), s.eligible a = o :: es → s.targetOf o = some p →
            d = .openPage p) ∧
          (s.eligible a = [] →
            (1 ≤ l.debt → d = .restore) ∧
            (-1 ≤ l.debt → l.debt ≤ 0 →
              (s.stc.device = .ready → s.prf.staged = none → d = .restore) ∧
              (s.stc.device ≠ .ready ∨ s.prf.staged.isSome = true → d = .stay)) ∧
            (l.debt < -1 → d = .stay))))

/-- In a settled state of a running part, the completion of a page open leaves the lane in HELD(p) and that of a page
close in CLOSED, and the scheduler decides; no content changes. An action to open, close or restore changes the state
of that lane only: CLOSED to OPENING(p), HELD(p) to CLOSING(p), CLOSED to RESTORING. An action to serve an entry in
HELD(p) serves it in page p with the entries passed over (what serving does is in
ServingAnEntryAndRemappingAtItsSelection). The command for a lane that performs no such operation leaves the state as
it is (log entry 4). (R10, R15, R8, R48, R57, R28, R58) -/
def Obligations.OpenAndCloseCompletionsDecideAgain : Prop :=
  (∀ (a : LaneId) (s : State), s.settled → s.running = true →
      (∀ p : PageName, (s.lane a).state = .opening p → exec (.pageOpenCompletion a) s =
        .next (kick (decideLane (s.setLaneState a (.held p)) a))) ∧
      (∀ p : PageName, (s.lane a).state = .closing p → exec (.pageCloseCompletion a) s =
        .next (kick (decideLane (s.setLaneState a .closed) a))) ∧
      ((∀ p : PageName, (s.lane a).state ≠ .opening p) → exec (.pageOpenCompletion a) s = .next s) ∧
      ((∀ p : PageName, (s.lane a).state ≠ .closing p) → exec (.pageCloseCompletion a) s = .next s)) ∧
    ∀ (a : LaneId) (s : State),
      (∀ (p : PageName) (e : EntryKey) (passed : List EntryKey), (s.lane a).state = .held p →
        s.decision a = .serve e passed → decideLane s a = serve a p e passed s) ∧
      (∀ p : PageName, s.decision a = .openPage p → decideLane s a = s.setLaneState a (.opening p)) ∧
      (∀ p : PageName, (s.lane a).state = .held p → s.decision a = .close →
        decideLane s a = s.setLaneState a (.closing p)) ∧
      (s.decision a = .restore → decideLane s a = s.setLaneState a .restoring) ∧
      (s.decision a = .stay → decideLane s a = s)

/-- Age cap, page policy, write-back and remapping are those of the active profile. An entry's target is SPARE when its
lane has a remap record for its page and line, or it is a WRITE, its location is suspect, remapping is ON and the lane
has a FREE spare; else the page of its location. When entry e, the only one with its key, is served in its target page
p: the entries passed over gain one pass, to 15 at most; e becomes ACTIVE; the lane is in ACCESS with READ for a READ
or MERGE, WRITE for a WRITE; the line is that of its location in a numbered page, where nothing is remapped, or the
spare line its remap record names. A READ or MERGE, and a WRITE whose location is not suspect or with remapping OFF,
change nothing of ITG. A suspect WRITE with remapping ON takes the lowest FREE spare f: its record names f, in place
if it had one, else at the tail; f is IN_USE, the spare it had RETIRED; the suspect record goes; the remapped flag is
set; it reaches f. With no FREE spare only the exhausted flag is set, with SPARES_EXHAUSTED posted if it was clear.
(R57, R52, R28, R11, R7, R46, R47, R91, R92, R89, R90, R131) -/
def Obligations.ServingAnEntryAndRemappingAtItsSelection : Prop :=
  (∀ s : State,
      (∀ passes : Nat, s.atAgeCap passes = true ↔ ∃ q : Profile, s.prf.active = some q ∧ q.ageCap ≤ passes) ∧
      (s.releasePolicy = true ↔ ∃ q : Profile, s.prf.active = some q ∧ q.policy = .release) ∧
      (s.writeBackOn = true ↔ ∃ q : Profile, s.prf.active = some q ∧ q.writeBack = true) ∧
      (s.remappingOn = true ↔ ∃ q : Profile, s.prf.active = some q ∧ q.remapping = true)) ∧
    (∀ (s : State) (e : Entry),
      (e.location = none → s.targetOf e = none) ∧
      ∀ loc : Location, e.location = some loc →
        let l := s.lane loc.lane;
        let spare : Prop := (∃ r ∈ l.remaps, r.page = loc.page ∧ r.line = loc.line) ∨
          ((∃ (address : Nat) (data : List Byte), e.kind = .write address data) ∧
            (∃ r ∈ s.itg.suspects, r.location = loc) ∧
            (∃ q : Profile, s.prf.active = some q ∧ q.remapping = true) ∧ ∃ i : SpareId, l.spares.get i = .free);
        (spare → s.targetOf e = some .spareRow) ∧ (¬ spare → s.targetOf e = some (.page loc.page))) ∧
    ∀ (a : LaneId) (p : PageName) (e : Entry) (loc : Location) (passed : List EntryKey) (s : State),
      s.table.filter (fun x => x.key == e.key) = [e] → e.location = some loc → loc.lane = a → e.key ∉ passed →
      s.targetOf e = some p →
      let t := serve a p e.key passed s;
      let f := (s.lane a).lowestFree;
      let old := (s.lane a).remapOf loc;
      let remapped := e.kind.isWrite && s.suspect loc && s.remappingOn && f.isSome;
      t.table = s.table.map (fun x =>
        if x.key = e.key then { x with state := .active, remapped := x.remapped || remapped }
        else if x.key ∈ passed then { x with passes := if x.passes < 15 then x.passes + 1 else x.passes } else x) ∧
      (t.lane a).state = .access p e.key (if e.kind.isWrite then .write else .read)
        (match (if remapped then f else old) with | some i => .spare a i | none => .host loc) ∧
      (p ≠ .spareRow → p = .page loc.page ∧ remapped = false ∧ old = none) ∧
      (p = .spareRow → (if remapped then f else old).isSome = true) ∧
      (remapped = false → (t.lane a).remaps = (s.lane a).remaps ∧ (t.lane a).spares = (s.lane a).spares ∧
        t.itg = s.itg) ∧
      (∀ i : SpareId, remapped = true → f = some i →
        (∀ j : SpareId, (t.lane a).spares.get j =
          (if j = i then .inUse else if old = some j then .retired else (s.lane a).spares.get j)) ∧
        (t.lane a).remapOf loc = some i ∧
        (∀ l : Location, l.page ≠ loc.page ∨ l.line ≠ loc.line → (t.lane a).remapOf l = (s.lane a).remapOf l) ∧
        (old = none → (t.lane a).remaps = (s.lane a).remaps ++ [{ page := loc.page, line := loc.line, spare := i }]) ∧
        (old.isSome = true → (t.lane a).remaps.map (fun r => (r.page, r.line)) =
          (s.lane a).remaps.map (fun r => (r.page, r.line))) ∧
        t.itg = { s.itg with suspects := s.itg.suspects.filter (fun r => r.location ≠ loc) }) ∧
      (let exhausted := e.kind.isWrite && s.suspect loc && s.remappingOn && f.isNone;
        (t.lane a).exhausted = ((s.lane a).exhausted || exhausted) ∧
        t.snu = (if exhausted && !(s.lane a).exhausted then (postNotice (.sparesExhausted a) s).snu else s.snu)) ∧
      (∀ b : LaneId, b ≠ a → t.lane b = s.lane b) ∧ t.array = s.array ∧ t.link = s.link ∧ t.waiting = s.waiting ∧
      t.replies = s.replies ∧ t.slots = s.slots ∧ t.prf = s.prf ∧ t.stc = s.stc ∧ t.rst = s.rst

/-- In a settled state of a running part, when lane a performs a READ phase of entry e, which has its location in the
lane: the outcome is CLEAN, CORRECTED or LOST by the damage level of the line. The buffer holds the line, or after
LOST an unusable content (a free value, log entry 6). CORRECTED raises the lane's corrected count; LOST its lost
count, and offers the location. A corrected READ with write-back ON goes on with WRITE_BACK, a MERGE that is not LOST
with WRITE, at the same line with no decision; otherwise the array work of e ends. (R12, R78, R79, R80, R29, R81, R19,
R40) -/
def Obligations.ReadPhaseFillsTheBufferAndGoesOnOrEnds : Prop :=
  ∀ (a : LaneId) (p : PageName) (line : ArrayLine) (e : Entry) (loc : Location) (s : State),
      s.settled → s.running = true → (s.lane a).state = .access p e.key .read line → s.entry e.key = some e →
      e.location = some loc → loc.lane = a →
      let o : ReadOutcome := match s.array.level line with
        | .intact => .clean
        | .correctable => .corrected
        | .uncorrectable => .lost;
      ∃ buffer : List Byte, (o ≠ .lost → buffer = s.array.line line) ∧
        let e' := { e with buffer := some buffer, found := some o };
        let t := { s.onEntry e.key (fun _ => e') with draws := s.draws + 1 };
        let u := match o with
          | .clean => t
          | .corrected => t.setLane a { s.lane a with corrected := bump (s.lane a).corrected }
          | .lost => offerSuspect loc (match line with | .host _ => none | .spare _ i => some i)
              (t.setLane a { s.lane a with lost := bump (s.lane a).lost });
        let goesOn : Option Phase := match e.kind, o with
          | .read _ _ _, .corrected => if s.writeBackOn then some .writeBack else none
          | .merge _ _ _, .lost => none
          | .merge _ _ _, _ => some .write
          | _, _ => none;
        exec (.readPhaseCompletion a) s = .next (kick (match goesOn with
          | some ph => u.setLaneState a (.access p e.key ph line)
          | none => endWork a p e' u))

/-- In a settled state of a running part, at the completion of a WRITE phase the line reached holds the 64 carried bytes
of a WRITE; of a MERGE, byte b is the carried one where enable b is set and the buffer's where it is clear. At the
completion of a WRITE_BACK it holds the line buffer. The array work of the entry ends. No other byte of the array
changes, and the array of the next state is the array so written. (R13, R14, R1, R19, R29, R123) -/
def Obligations.WritePhasesStoreTheLineAndEndTheWork : Prop :=
  ∀ (a : LaneId) (p : PageName) (ph : Phase) (line : ArrayLine) (e : Entry) (loc : Location) (s : State),
      s.settled → s.running = true → (s.lane a).state = .access p e.key ph line → s.entry e.key = some e →
      e.location = some loc →
      let c := match ph with
        | .read => Instr.readPhaseCompletion a
        | .write => .writePhaseCompletion a
        | .writeBack => .writeBackPhaseCompletion a;
      let stores : List Byte → Prop := fun bytes =>
        exec c s = .next (kick (endWork a p e { s with array := s.array.write line bytes })) ∧
        (∀ t : State, exec c s = .next t → t.array = s.array.write line bytes ∧
          ∀ address : Nat, address < lineBase line ∨ lineBase line + 64 ≤ address →
            t.array.byte address = s.array.byte address);
      (∀ (address : Nat) (data : List Byte), ph = .write → e.kind = .write address data → stores data) ∧
      (∀ (address : Nat) (mask data buffer : List Byte), ph = .write → e.kind = .merge address mask data →
        e.buffer = some buffer → ∃ bytes : List Byte, bytes.length = 64 ∧ stores bytes ∧
          ∀ b : Nat, b < 64 → bytes[b]? = some
            (if (byteAt mask (b / 8)).getLsbD (b % 8) then byteAt data b else byteAt buffer b)) ∧
      (∀ buffer : List Byte, ph = .writeBack → e.buffer = some buffer → stores buffer)

/-- At the end of the array work of entry e, the only one with its key, ACTIVE: unless it is an orphan, it is in
REPLY_WAIT with outcome OK, CORRECTED or LOST by what its READ phase found, and joins the tail of the reply list. An
orphan is gone; at a count of 0 its DETACHED slot is FREE, and a CLOSING one produces CLOSED. Then exactly the FENCEs
of its slot in FENCE_WAIT behind which stand, of that slot, only e, entries in REPLY_WAIT and further FENCEs in
FENCE_WAIT complete with outcome OK and join the reply list in acceptance order. Lane a is in HELD(p). Lane a, each
lane whose queue has changed and each with an entry that has become eligible decide, in ascending number (log entry
11). Nothing else changes; a lane with an operation in progress is left as it is. (R29, R30, R40, R26, R27, R108, R58,
R23, R104) -/
def Obligations.EndOfArrayWorkReleasesTheReply : Prop :=
  ∀ (a : LaneId) (p : PageName) (e : Entry) (s : State),
      (s.table.map (·.key)).Nodup → e ∈ s.table → e.state = .active →
      let slot := s.slot e.key.slot;
      let emptied : Bool := e.orphan && s.entryCount e.key.slot == 1;
      let outcome : Status := match e.found with
        | none => .ok
        | some .clean => .ok
        | some .corrected => .corrected
        | some .lost => .lost;
      let t := endWork a p e s;
      (∃ fences : List EntryKey,
        fences.Sublist (s.table.map (·.key)) ∧
        (∀ (older younger : List Entry) (x : Entry), s.table = older ++ x :: younger →
          (x.key ∈ fences ↔ x.kind = .fence ∧ x.state = .fenceWait ∧ x.key.slot = e.key.slot ∧
            ∀ o ∈ older, o.key.slot = e.key.slot →
              o.key = e.key ∨ o.state = .replyWait ∨ (o.kind = .fence ∧ o.state = .fenceWait))) ∧
        let kept : List Entry := if e.orphan then s.table.filter (fun x => x.key ≠ e.key)
          else s.table.map (fun x => if x.key = e.key then { x with state := .replyWait, outcome := some outcome } else x);
        let u : State := { s with
          lanes := s.lanes.set a { s.lane a with state := .held p }
          table := kept.map (fun x =>
            if x.key ∈ fences then { x with state := .replyWait, outcome := some .ok } else x)
          replies := (if e.orphan then s.replies.filter (fun k => k ≠ e.key) else s.replies ++ [e.key]) ++ fences
          slots := if emptied && slot.state == .detached then s.slots.set e.key.slot Slot.unused else s.slots
          waiting := s.waiting ++
            (if emptied && slot.state == .closing then [.closed e.key.slot slot.discarded] else []) };
        t = tell (allLanes.filter (fun b => decide (b = a ∨
          (s.laneQueue b).map (·.key) ≠ (u.laneQueue b).map (·.key) ∨
          ∃ x ∈ u.eligible b, ∀ y ∈ s.eligible b, y.key ≠ x.key))) u) ∧
      (∀ b : LaneId, b ≠ a → (s.lane b).state.idle = false → t.lane b = s.lane b) ∧
      (t.lane a).state ≠ .closed ∧ t.array = s.array ∧ t.link = s.link ∧ t.prf = s.prf ∧ t.stc = s.stc ∧ t.rst = s.rst

/-- A location already listed leaves the list and the overflow count as they are, with no notice. With 16 records the
overflow count rises and SUSPECT_FULL is posted. Otherwise a record with the location and the spare index joins the
tail and SUSPECT_ADDED is posted. A notice posted is not queued when its kind is masked; with fewer than 8 records it
joins the queue; otherwise the lost-notice count rises, to 255 at most. Nothing else changes. (R83, R82, R175) -/
def Obligations.SuspectListTakesALostLocation : Prop :=
  (∀ (loc : Location) (spare : Option SpareId) (s : State),
      ((∃ r ∈ s.itg.suspects, r.location = loc) → offerSuspect loc spare s = s) ∧
      ((∀ r ∈ s.itg.suspects, r.location ≠ loc) →
        (16 ≤ s.itg.suspects.length → offerSuspect loc spare s = postNotice (.suspectFull loc)
          { s with itg := { s.itg with overflow := bump s.itg.overflow } }) ∧
        (s.itg.suspects.length < 16 → offerSuspect loc spare s = postNotice (.suspectAdded loc)
          { s with itg := { s.itg with suspects := s.itg.suspects ++ [{ location := loc, spare := spare }] } }))) ∧
    ∀ (n : Notice) (s : State),
      let enabled : Bool := match s.prf.active with
        | none => true
        | some p => (match n with
          | .tempBand _ => p.mask.tempBand
          | .suspectAdded _ => p.mask.suspectAdded
          | .suspectFull _ => p.mask.suspectFull
          | .sparesExhausted _ => p.mask.sparesExhausted
          | .restorationOverrun _ => p.mask.restorationOverrun
          | .noticesLost _ => p.mask.noticesLost);
      (enabled = false → postNotice n s = s) ∧
      (enabled = true → s.snu.queue.length < 8 →
        postNotice n s = { s with snu := { s.snu with queue := s.snu.queue ++ [n] } }) ∧
      (enabled = true → 8 ≤ s.snu.queue.length → s.snu.lost ≤ 255 →
        postNotice n s = { s with snu := { s.snu with lost := min (s.snu.lost + 1) 255 } })

/-! ## Restoration, temperature, profiles and device states -/

/-- In a settled state of a running part, when lane a is RESTORING: it is CLOSED, its debt is 1 lower, its pointer 2
higher modulo 16,384, its forced flag stays set only above max(D - 3, 0), and its scheduler decides; D is 6 before the
first profile. The step renews pages p and p + 1 of the lane at pointer p, and the spare row when p is 0, and no other
page (by the model's clock, log entry 8). The command for a lane that is not RESTORING changes nothing (the model's
choice, log entry 4). (R16, R65, R68, R70, R48, R58, R19, R132) -/
def Obligations.RestorationStepPaysTheDebt : Prop :=
  (∀ (a : LaneId) (s : State), s.settled → s.running = true → (s.lane a).state = .restoring →
      let l := s.lane a;
      let limit : Int := match s.prf.active with | none => 6 | some p => (p.deferral : Int);
      ∃ pointer : Fin 16384, pointer.val = (l.pointer.val + 2) % 16384 ∧
        exec (.restorationStepCompletion a) s = .next (kick (decideLane
          (State.setLane { s with array := s.array.step a l.pointer } a { l with
            state := .closed
            debt := l.debt - 1
            pointer := pointer
            forced := l.forced && decide (max (limit - 3) 0 < l.debt - 1) }) a))) ∧
    (∀ (a : LaneId) (s : State), s.settled → (s.lane a).state ≠ .restoring →
      exec (.restorationStepCompletion a) s = .next s) ∧
    ∀ (m : Storage) (a b : LaneId) (p : Fin 16384) (q : PageName), Sparse.wf 0 m.restoredAt = true →
      (m.step a p).restoredTime b q =
        (if b = a ∧ (q = .page p ∨ q = .page (p + 1) ∨ (q = .spareRow ∧ p = 0)) then m.elapsed
        else m.restoredTime b q)

/-- In a settled state of a running part with the timer running: every lane with a debt below 7 has it 1 higher, its
forced flag set at D or more, and decides; every other lane, with a debt of 7 (or above, log entry 26), counts an
overrun, with RESTORATION_OVERRUN posted in ascending lane number. The next period is 3.2 µs in band HOT or under
ALWAYS_DOUBLE, and 6.4 µs otherwise. The model's clock advances by the nominal length of the period that ended, 64 or
32 tenths of a microsecond (log entry 8). Nothing else changes but what the lanes begin. With the timer stopped the
command changes nothing (log entry 4). (R62, R63, R64, R65, R67, R74, R75, R48, R132) -/
def Obligations.TimerExpiryRaisesTheDebts : Prop :=
  ∀ s : State, s.settled → s.running = true →
      (s.rst.timer = none → exec .restorationTimerExpiry s = .next s) ∧
      ∀ period : Period, s.rst.timer = some period →
        let limit : Int := match s.prf.active with | none => 6 | some p => (p.deferral : Int);
        let double : Prop := s.rst.band = .hot ∨ ∃ p : Profile, s.prf.active = some p ∧ p.hot = .alwaysDouble;
        ∃ (lanes : Eight Lane) (next : Period),
          exec .restorationTimerExpiry s = .next (kick (tell (allLanes.filter (fun a => decide ((s.lane a).debt < 7)))
            { s with
              lanes := lanes
              rst := { s.rst with timer := some next }
              array := { s.array with
                elapsed := s.array.elapsed + (match period with | .single => 64 | .double => 32) }
              snu := ((allLanes.filter (fun a => decide (7 ≤ (s.lane a).debt))).foldl
                (fun t a => postNotice (.restorationOverrun a) t) s).snu })) ∧
          (double → next = .double) ∧ (¬ double → next = .single) ∧
          ∀ a : LaneId, let l := s.lane a;
            (l.debt < 7 → lanes.get a =
              { l with debt := l.debt + 1, forced := l.forced || decide (limit ≤ l.debt + 1) }) ∧
            (7 ≤ l.debt → lanes.get a = { l with overruns := bump l.overruns })

/-- At the completion of a reading in a running part the reading is the die temperature held to -40 to +125, and it
becomes the last reading. From COOL a reading of 88 or more gives HOT and one of 87 or less COOL; from HOT one of 82
or less gives COOL and one of 83 or more HOT; at a change TEMP_BAND with the new band is posted. The next interval is
8 ms in RETAINED and 1 ms elsewhere; nothing else changes. A full reset by any of its causes, a power-up included,
gives COOL; so does a loss of supply, as the value that the model keeps standing (log entry 7). No other command
changes the band, so it is COOL until the first reading. (R73, R72, R74, R76, R164, R165) -/
def Obligations.TemperatureBandFollowsTheReading : Prop :=
  (∀ (temperature : Int) (s : State), s.settled → s.running = true → s.rst.interval.isSome = true →
      let reading : Int := if temperature < -40 then -40 else if 125 < temperature then 125 else temperature;
      ∃ band : Band,
        exec (.temperatureReadingCompletion temperature) s = .next { s with
          rst := { s.rst with
            lastReading := some reading
            band := band
            interval := some (if s.stc.device = .retained then .eightMs else .oneMs) }
          snu := if band = s.rst.band then s.snu else (postNotice (.tempBand band) s).snu } ∧
        (s.rst.band = .cool → 88 ≤ reading → band = .hot) ∧ (s.rst.band = .cool → reading ≤ 87 → band = .cool) ∧
        (s.rst.band = .hot → reading ≤ 82 → band = .cool) ∧ (s.rst.band = .hot → 83 ≤ reading → band = .hot)) ∧
    State.reset.rst.band = .cool ∧ (∀ s : State, (fullReset s).rst.band = .cool) ∧
    ∀ (c : Instr) (s t : State), (∀ temperature : Int, c ≠ .temperatureReadingCompletion temperature) →
      exec c s = .next t →
        ((∀ k : Byte, c ≠ .fullReset k) → c ∉ [.resetNFall, .powerUp, .supplyOutOfRange] → t.rst.band = s.rst.band) ∧
        (s.running = true → (∃ k : Byte, c = .fullReset k) ∨ c = .resetNFall → t.rst.band = .cool) ∧
        (s.pins.supplied = true → c = .supplyOutOfRange → t.rst.band = .cool) ∧
        (s.pins.supplied = false → c = .powerUp → t.rst.band = .cool)

/-- In a settled state of a running part: with initialization in progress, every lane CLOSED and the table empty, at its
completion the array is initialized, the device is UNCONFIGURED, every debt and pointer is 0, every forced flag clear,
the timer runs a first period by setting and band, and every lane stays. With wake in progress, at its completion the
device is READY, AWAKE is produced if it is owed, and every lane decides. Neither command changes anything when its
operation is not in progress (the model's choice, log entry 4). (R166, R171, R2, R62, R65, R70, R76, R48, R9) -/
def Obligations.InitializationAndWakeComplete : Prop :=
  ∀ s : State, s.settled → s.running = true →
      (s.stc.initializing = true → s.table = [] → (∀ a : LaneId, (s.lane a).state = .closed) →
        ∃ period : Period,
          (period = .double ↔ s.rst.band = .hot ∨ ∃ p : Profile, s.prf.active = some p ∧ p.hot = .alwaysDouble) ∧
          exec .arrayInitializationCompletion s = .next { s with
            array := Storage.initialized
            stc := { s.stc with device := .unconfigured, initializing := false }
            lanes := s.lanes.map (fun l => { l with debt := 0, forced := false, pointer := 0 })
            rst := { s.rst with timer := some period } }) ∧
      (s.stc.initializing = false → exec .arrayInitializationCompletion s = .next s) ∧
      (s.stc.waking = true → exec .wakeCompletion s = .next (kick (tell allLanes { s with
        stc := { s.stc with device := .ready, waking := false, wakeOwed := false }
        waiting := s.waiting ++ (if s.stc.wakeOwed then [.stc .awake] else []) }))) ∧
      (s.stc.waking = false → exec .wakeCompletion s = .next s)

/-- A profile is applied when it is staged in READY, every entry is PROFILE_HELD or in REPLY_WAIT and every lane is
CLOSED, or when it is under processing in UNCONFIGURED and every lane is CLOSED (which stands for CLOSED and staying,
log entry 12). The profile is active, none is staged; PROFILE APPLIED joins the class 1 list, in UNCONFIGURED as INT's
reply with the device READY; every forced flag is set at D or more, cleared at max(D - 3, 0) or less, else kept; held
entries are QUEUED at the location the new map gives; a FENCE that is held or in FENCE_WAIT completes with outcome OK
and joins the reply list, in acceptance order, exactly when every older entry of its slot is in REPLY_WAIT or another
such FENCE, and is in FENCE_WAIT otherwise; other entries stay. Then every lane decides, and of what follows only lane
states are new. (R137, R138, R134, R35, R69, R140, R139, R5, R24, R26, R30, R48) -/
def Obligations.ProfileApplicationReleasesTheHeldEntries : Prop :=
  (∀ (s : State) (p : Profile), s.toApply = some p ↔
      ((∀ a : LaneId, (s.lane a).state = .closed) ∧
        (s.stc.device = .ready ∧ s.prf.staged = some p ∧
            (∀ e ∈ s.table, e.state = .profileHeld ∨ e.state = .replyWait) ∨
          s.stc.device = .unconfigured ∧ s.prf.processing = some p))) ∧
    ∀ (s : State) (p : Profile), kick s = s → s.running = true → s.toApply = some p →
      ∃ (table : List Entry) (fences : List EntryKey),
        let u : State := { s with
          prf := { active := some p, staged := none, processing := none }
          stc := { s.stc with device := .ready }
          waiting := s.waiting ++
            [if s.stc.device = .unconfigured then .int (.profileApplied p.label) else .profileApplied p.label]
          lanes := s.lanes.map (fun l => { l with
            forced := if (p.deferral : Int) ≤ l.debt then true
              else if l.debt ≤ max ((p.deferral : Int) - 3) 0 then false else l.forced })
          table := table
          replies := s.replies ++ fences };
        let t := kick (tell allLanes u);
        exec .profileApplication s = .next t ∧ t = { u with lanes := t.lanes } ∧
        (∀ a : LaneId, t.lane a = { u.lane a with state := (t.lane a).state }) ∧
        table.map (·.key) = s.table.map (·.key) ∧
        fences = ((s.table.zip table).filter (fun x => x.1.state != .replyWait && x.2.state == .replyWait)).map
          (fun x => x.1.key) ∧
        ∀ (older younger : List Entry) (e : Entry), s.table = older ++ e :: younger →
          let now := table[older.length]?;
          let waits : Entry → Prop := fun x => x.kind = .fence ∧ (x.state = .profileHeld ∨ x.state = .fenceWait);
          let done : Prop := ∀ o ∈ older, o.key.slot = e.key.slot → o.state = .replyWait ∨ waits o;
          (∀ address : Nat, e.kind.address = some address → e.state = .profileHeld →
            now = some { e with state := .queued, location := some (locate p.map address) }) ∧
          (waits e → done → now = some { e with state := .replyWait, outcome := some .ok }) ∧
          (waits e → ¬ done → now = some { e with state := .fenceWait }) ∧
          (e.state ≠ .profileHeld → ¬ waits e → now = some e)

/-- The drain is complete when the device is RESTING, the in-flight table is empty and every lane is CLOSED (which stands
for CLOSED and staying, log entry 12). Then the device is RETAINED, RESTED is produced if it is owed and the flag is
cleared, and every lane decides; no lane opens a page. (R169, R170, R163, R36, R60, R48) -/
def Obligations.DrainCompleteEntersRetained : Prop :=
  (∀ s : State, s.drained = true ↔
      s.stc.device = .resting ∧ s.table = [] ∧ ∀ a : LaneId, (s.lane a).state = .closed) ∧
    ∀ s : State, s.running = true → s.drained = true →
      exec .drainComplete s = .next (kick (tell allLanes { s with
        stc := { s.stc with device := .retained, restOwed := false }
        waiting := s.waiting ++ (if s.stc.restOwed then [.stc .rested] else []) })) ∧
      ∀ t : State, exec .drainComplete s = .next t → ∀ a : LaneId,
        (t.lane a).state = (if (s.lane a).forced = true ∨ 1 ≤ (s.lane a).debt then .restoring else .closed)

/-! ## Grants -/

/-- While the outbound queue has a free place and neither an application nor the drain's end is due: the first reply of
the class 1 list is granted (one list in order of production across the producers, in which a PROFILE STATE alone can
have passed a PROFILE APPLIED: the model's choice, log entry 29), its message joins the queue and its producer acts
(INT's frame leaves the intake, after the reply has joined the queue, log entry 21, a CLOSED reply's slot is FREE);
with no class 1 reply, the candidate: the first releasable entry of the reply list, releasable in a FREE slot always
and in an ORDERED one when it is the oldest entry of its slot; its reply joins the queue, its place is freed, and a
CLOSING slot without entries produces CLOSED, a DETACHED one is FREE; with neither, the oldest notice, and
NOTICES_LOST takes its place when notices were lost. (R159, R30, R31, R32, R33, R105, R114, R140, R151, R173, R176,
R104) -/
def Obligations.ArbiterGrantsByClass : Prop :=
  ∀ s : State, s.granting →
      let out : Message → Link := fun m => { s.link with outbound := s.link.outbound ++ [m] };
      (∀ (m : Message) (ws : List Waiting), s.waiting = .int m :: ws →
        exec .intReplyGrant s = .next (kick (depart { s with waiting := ws, link := out m }))) ∧
      (∀ (k : SlotId) (n : Nat) (ws : List Waiting), s.waiting = .closed k n :: ws →
        exec .closedReplyGrant s = .next (kick { s with
          waiting := ws, link := out (.closed k n), slots := s.slots.set k Slot.unused })) ∧
      (∀ (label : BitVec 16) (ws : List Waiting), s.waiting = .profileApplied label :: ws →
        exec .profileAppliedGrant s = .next (kick { s with waiting := ws, link := out (.profileApplied label) })) ∧
      (∀ (r : StcReply) (ws : List Waiting), s.waiting = .stc r :: ws →
        exec .stcReplyGrant s = .next (kick { s with
          waiting := ws
          link := out (match r with | .rested => .rested | .restCancelled => .restCancelled | .awake => .awake) })) ∧
      (∀ (before after : List EntryKey) (e : Entry), s.waiting = [] → s.replies = before ++ e.key :: after →
        s.entry e.key = some e →
        let first : EntryKey → Prop := fun k =>
          ((s.table.filter (fun x => x.key.slot == k.slot)).map (·.key)).head? = some k;
        let releasable : EntryKey → Prop := fun k => (s.slot k.slot).order = .free ∨ first k;
        releasable e.key → (∀ k ∈ before, ¬ releasable k) →
        let t : State := { s with
          link := out (entryReply s.wordOrder e)
          table := s.table.filter (fun x => x.key ≠ e.key)
          replies := s.replies.filter (fun k => k ≠ e.key) };
        let slot := s.slot e.key.slot;
        (slot.state = .opened ∨ t.entryCount e.key.slot ≠ 0 → exec .entryReplyGrant s = .next (kick t)) ∧
        (slot.state = .closing → t.entryCount e.key.slot = 0 →
          exec .entryReplyGrant s = .next (kick { t with waiting := [.closed e.key.slot slot.discarded] })) ∧
        (slot.state = .detached → t.entryCount e.key.slot = 0 →
          exec .entryReplyGrant s = .next (kick { t with slots := s.slots.set e.key.slot Slot.unused }))) ∧
      (∀ (n : Notice) (ns : List Notice), s.waiting = [] → s.candidate = none → s.snu.queue = n :: ns →
        exec .noticeGrant s = .next (kick { s with
          link := out (.notice n)
          snu := if s.snu.lost = 0 then { queue := ns, lost := 0 }
            else { queue := ns ++ [.noticesLost s.snu.lost], lost := 0 } }))

/-- In a settled state of a running part, with the time since a page's restoration reckoned in nominal timer periods (log
entry 8): while it cannot exceed the rating (64 ms at 90 °C or below, 32 ms above) before the period in progress ends,
the command changes nothing; nor does it when the level named is no higher than the line's. Beyond the rating a higher
level is taken: that line has it, every other line keeps its level, and no content changes. (R19, R1) -/
def Obligations.LinesDegradeOnlyBeyondTheirRating : Prop :=
  ∀ (line : ArrayLine) (level : Damage) (temperature : Int) (s : State), s.settled → s.running = true →
      let c := exec (.lineDegradation line level temperature) s;
      let since : Period → Nat := fun period =>
        s.array.elapsed + (match period with | .single => 64 | .double => 32) -
          s.array.restoredTime (linePage line).1 (linePage line).2;
      let rating : Nat := if temperature ≤ 90 then 640000 else 320000;
      let rank : Damage → Nat := fun d => match d with | .intact => 0 | .correctable => 1 | .uncorrectable => 2;
      (s.rst.timer = none → c = .next s) ∧
      ∀ period : Period, s.rst.timer = some period →
        (since period ≤ rating ∨ rank level ≤ rank (s.array.level line) → c = .next s) ∧
        (rating < since period → rank (s.array.level line) < rank level → s.array.undefinedDraw = none →
          Sparse.wf Damage.intact s.array.damage = true →
          ∃ damage : List (Nat × Damage), c = .next { s with array := { s.array with damage := damage } } ∧
            ∀ t : State, c = .next t → t.array.level line = level ∧
              ∀ j : ArrayLine, j ≠ line → t.array.level j = s.array.level j)

/-! ## Invariants -/

/-- From every state whose array tables are in canonical form (rising keys, no entry at the value an unlisted key has), a
step that answers a next state leaves them so. The form is the model's choice for holding the array; equal contents
are equal data by it. (R1, R2, R18, R19) -/
def Obligations.EveryStepKeepsTheArrayCanonical : Prop :=
  ∀ s t : State, s.arrayCanonical → step s = .next t → t.arrayCanonical

/-- From every state in which each lane's debt lies from -2 to +7, a step runs only at -1 or more, a forced flag stands
only at 1 or more and the profiles held have a deferral limit of 1 or more, a step leaves these true. From every state
with at most 8 frames in the intake, 24 outbound, 16 listed for replay, 8 notices, a lost count to 255, 16 suspects, a
stall count of at most 4, at most 3 while RUNNING, and a timer that runs only in RUNNING, a step leaves these true.
(R65, R49, R67, R68, R148, R154, R156, R158, R175, R82) -/
def Obligations.EveryStepKeepsDebtsAndCapacities : Prop :=
  (∀ s t : State, s.debtsInRange → step s = .next t → t.debtsInRange) ∧
    ∀ s t : State, s.withinCapacity → step s = .next t → t.withinCapacity

/-- From every state in which no two entries share slot and tag, the reply list names entries in REPLY_WAIT and an access
phase is for an ACTIVE entry of its lane, a step answers a next state, never a fault or a refusal, in which this
holds. If besides no slot has more entries than its window, a FREE slot's window is 0, the windows sum to at most 48
and a CLOSED reply waits only for a CLOSING slot without entries, once for each, this holds after the step as well.
(R8, R20, R22, R23, R28, R30, R96, R97, R98, R104, R105) -/
def Obligations.EveryStepKeepsTableAndSessionsAndNoneStops : Prop :=
  (∀ s : State, s.tableConsistent → ∃ t : State, step s = .next t ∧ t.tableConsistent) ∧
    ∀ s t : State, s.tableConsistent → s.sessionsConsistent → step s = .next t → t.sessionsConsistent

/-- The state after reset has its array in canonical form, its debts in range, its queues within their places, and its
table and sessions consistent. Whenever the sessions are consistent the in-flight table holds at most 48 entries.
(R20, R97, R98, R65, R76, R110) -/
def Obligations.InvariantsAtResetAndTheTableFits : Prop :=
  (State.reset.arrayCanonical ∧ State.reset.debtsInRange ∧ State.reset.withinCapacity ∧
      State.reset.tableConsistent ∧ State.reset.sessionsConsistent) ∧
    ∀ s : State, s.sessionsConsistent → s.table.length ≤ 48
end

