-- ==== Sys2Proof/Laws/State.lean ====
section
/-!
SUPPORT. One lemma per field for each named update of the state, so that no proof unfolds a record update, and the laws of
the eight-fold and four-fold collections.
-/
namespace Sys2Proof

@[simp] theorem Eight.get_set_same {α : Type} (v : Eight α) (i : Fin 8) (x : α) : (v.set i x).get i = x := by
  fin_cases i <;> rfl

theorem Eight.get_set_other {α : Type} (v : Eight α) (i j : Fin 8) (x : α) (h : j ≠ i) :
    (v.set i x).get j = v.get j := by
  fin_cases i <;> fin_cases j <;> first | rfl | exact absurd rfl h

@[simp] theorem Eight.get_map {α β : Type} (f : α → β) (v : Eight α) (i : Fin 8) : (v.map f).get i = f (v.get i) := by
  fin_cases i <;> rfl

@[simp] theorem Eight.get_replicate {α : Type} (x : α) (i : Fin 8) : (Eight.replicate x).get i = x := by
  fin_cases i <;> rfl

@[simp] theorem Four.get_set_same {α : Type} (v : Four α) (i : Fin 4) (x : α) : (v.set i x).get i = x := by
  fin_cases i <;> rfl

theorem Four.get_set_other {α : Type} (v : Four α) (i j : Fin 4) (x : α) (h : j ≠ i) :
    (v.set i x).get j = v.get j := by
  fin_cases i <;> fin_cases j <;> first | rfl | exact absurd rfl h

@[simp] theorem Four.get_replicate {α : Type} (x : α) (i : Fin 4) : (Four.replicate x).get i = x := by
  fin_cases i <;> rfl

namespace Machine

/-! ## Lanes and slots -/

@[simp] theorem State.setLane_lane_same (s : State) (a : LaneId) (l : Lane) : (s.setLane a l).lane a = l :=
  Eight.get_set_same s.lanes a l

theorem State.setLane_lane_other (s : State) (a b : LaneId) (l : Lane) (h : b ≠ a) :
    (s.setLane a l).lane b = s.lane b :=
  Eight.get_set_other s.lanes a b l h

theorem State.setLane_lane (s : State) (a b : LaneId) (l : Lane) :
    (s.setLane a l).lane b = if b = a then l else s.lane b := by
  split
  · next h => subst h; simp
  · next h => exact State.setLane_lane_other s a b l h

@[simp] theorem State.setLane_pending (s : State) (a : LaneId) (l : Lane) : (s.setLane a l).pending = s.pending := rfl
@[simp] theorem State.setLane_pins (s : State) (a : LaneId) (l : Lane) : (s.setLane a l).pins = s.pins := rfl
@[simp] theorem State.setLane_link (s : State) (a : LaneId) (l : Lane) : (s.setLane a l).link = s.link := rfl
@[simp] theorem State.setLane_waiting (s : State) (a : LaneId) (l : Lane) : (s.setLane a l).waiting = s.waiting := rfl
@[simp] theorem State.setLane_slots (s : State) (a : LaneId) (l : Lane) : (s.setLane a l).slots = s.slots := rfl
@[simp] theorem State.setLane_table (s : State) (a : LaneId) (l : Lane) : (s.setLane a l).table = s.table := rfl
@[simp] theorem State.setLane_replies (s : State) (a : LaneId) (l : Lane) : (s.setLane a l).replies = s.replies := rfl
@[simp] theorem State.setLane_rst (s : State) (a : LaneId) (l : Lane) : (s.setLane a l).rst = s.rst := rfl
@[simp] theorem State.setLane_itg (s : State) (a : LaneId) (l : Lane) : (s.setLane a l).itg = s.itg := rfl
@[simp] theorem State.setLane_prf (s : State) (a : LaneId) (l : Lane) : (s.setLane a l).prf = s.prf := rfl
@[simp] theorem State.setLane_stc (s : State) (a : LaneId) (l : Lane) : (s.setLane a l).stc = s.stc := rfl
@[simp] theorem State.setLane_snu (s : State) (a : LaneId) (l : Lane) : (s.setLane a l).snu = s.snu := rfl
@[simp] theorem State.setLane_array (s : State) (a : LaneId) (l : Lane) : (s.setLane a l).array = s.array := rfl
@[simp] theorem State.setLane_draws (s : State) (a : LaneId) (l : Lane) : (s.setLane a l).draws = s.draws := rfl

theorem State.setLaneState_lane (s : State) (a b : LaneId) (st : LaneState) :
    (s.setLaneState a st).lane b = if b = a then { s.lane a with state := st } else s.lane b :=
  State.setLane_lane s a b _

@[simp] theorem State.setLaneState_pending (s : State) (a : LaneId) (st : LaneState) :
    (s.setLaneState a st).pending = s.pending := rfl
@[simp] theorem State.setLaneState_pins (s : State) (a : LaneId) (st : LaneState) :
    (s.setLaneState a st).pins = s.pins := rfl
@[simp] theorem State.setLaneState_link (s : State) (a : LaneId) (st : LaneState) :
    (s.setLaneState a st).link = s.link := rfl
@[simp] theorem State.setLaneState_waiting (s : State) (a : LaneId) (st : LaneState) :
    (s.setLaneState a st).waiting = s.waiting := rfl
@[simp] theorem State.setLaneState_slots (s : State) (a : LaneId) (st : LaneState) :
    (s.setLaneState a st).slots = s.slots := rfl
@[simp] theorem State.setLaneState_table (s : State) (a : LaneId) (st : LaneState) :
    (s.setLaneState a st).table = s.table := rfl
@[simp] theorem State.setLaneState_replies (s : State) (a : LaneId) (st : LaneState) :
    (s.setLaneState a st).replies = s.replies := rfl
@[simp] theorem State.setLaneState_rst (s : State) (a : LaneId) (st : LaneState) :
    (s.setLaneState a st).rst = s.rst := rfl
@[simp] theorem State.setLaneState_itg (s : State) (a : LaneId) (st : LaneState) :
    (s.setLaneState a st).itg = s.itg := rfl
@[simp] theorem State.setLaneState_prf (s : State) (a : LaneId) (st : LaneState) :
    (s.setLaneState a st).prf = s.prf := rfl
@[simp] theorem State.setLaneState_stc (s : State) (a : LaneId) (st : LaneState) :
    (s.setLaneState a st).stc = s.stc := rfl
@[simp] theorem State.setLaneState_snu (s : State) (a : LaneId) (st : LaneState) :
    (s.setLaneState a st).snu = s.snu := rfl
@[simp] theorem State.setLaneState_array (s : State) (a : LaneId) (st : LaneState) :
    (s.setLaneState a st).array = s.array := rfl
@[simp] theorem State.setLaneState_draws (s : State) (a : LaneId) (st : LaneState) :
    (s.setLaneState a st).draws = s.draws := rfl

theorem State.setSlot_slot (s : State) (k j : SlotId) (r : Slot) :
    (s.setSlot k r).slot j = if j = k then r else s.slot j := by
  split
  · next h => subst h; exact Four.get_set_same s.slots j r
  · next h => exact Four.get_set_other s.slots k j r h

@[simp] theorem State.setSlot_pins (s : State) (k : SlotId) (r : Slot) : (s.setSlot k r).pins = s.pins := rfl
@[simp] theorem State.setSlot_link (s : State) (k : SlotId) (r : Slot) : (s.setSlot k r).link = s.link := rfl
@[simp] theorem State.setSlot_waiting (s : State) (k : SlotId) (r : Slot) : (s.setSlot k r).waiting = s.waiting := rfl
@[simp] theorem State.setSlot_table (s : State) (k : SlotId) (r : Slot) : (s.setSlot k r).table = s.table := rfl
@[simp] theorem State.setSlot_replies (s : State) (k : SlotId) (r : Slot) : (s.setSlot k r).replies = s.replies := rfl
@[simp] theorem State.setSlot_lanes (s : State) (k : SlotId) (r : Slot) : (s.setSlot k r).lanes = s.lanes := rfl
@[simp] theorem State.setSlot_rst (s : State) (k : SlotId) (r : Slot) : (s.setSlot k r).rst = s.rst := rfl
@[simp] theorem State.setSlot_itg (s : State) (k : SlotId) (r : Slot) : (s.setSlot k r).itg = s.itg := rfl
@[simp] theorem State.setSlot_prf (s : State) (k : SlotId) (r : Slot) : (s.setSlot k r).prf = s.prf := rfl
@[simp] theorem State.setSlot_stc (s : State) (k : SlotId) (r : Slot) : (s.setSlot k r).stc = s.stc := rfl
@[simp] theorem State.setSlot_snu (s : State) (k : SlotId) (r : Slot) : (s.setSlot k r).snu = s.snu := rfl
@[simp] theorem State.setSlot_array (s : State) (k : SlotId) (r : Slot) : (s.setSlot k r).array = s.array := rfl

/-! ## The table -/

@[simp] theorem State.onEntry_table (s : State) (k : EntryKey) (f : Entry → Entry) :
    (s.onEntry k f).table = s.table.map (fun e => if e.key = k then f e else e) := rfl
@[simp] theorem State.onEntry_pins (s : State) (k : EntryKey) (f : Entry → Entry) : (s.onEntry k f).pins = s.pins := rfl
@[simp] theorem State.onEntry_link (s : State) (k : EntryKey) (f : Entry → Entry) : (s.onEntry k f).link = s.link := rfl
@[simp] theorem State.onEntry_waiting (s : State) (k : EntryKey) (f : Entry → Entry) :
    (s.onEntry k f).waiting = s.waiting := rfl
@[simp] theorem State.onEntry_slots (s : State) (k : EntryKey) (f : Entry → Entry) :
    (s.onEntry k f).slots = s.slots := rfl
@[simp] theorem State.onEntry_replies (s : State) (k : EntryKey) (f : Entry → Entry) :
    (s.onEntry k f).replies = s.replies := rfl
@[simp] theorem State.onEntry_lanes (s : State) (k : EntryKey) (f : Entry → Entry) :
    (s.onEntry k f).lanes = s.lanes := rfl
@[simp] theorem State.onEntry_array (s : State) (k : EntryKey) (f : Entry → Entry) :
    (s.onEntry k f).array = s.array := rfl

/-! ## Replies, the intake and the link -/

@[simp] theorem produce_waiting (w : Waiting) (s : State) : (produce w s).waiting = s.waiting ++ [w] := rfl
@[simp] theorem produce_pins (w : Waiting) (s : State) : (produce w s).pins = s.pins := rfl
@[simp] theorem produce_link (w : Waiting) (s : State) : (produce w s).link = s.link := rfl
@[simp] theorem produce_table (w : Waiting) (s : State) : (produce w s).table = s.table := rfl
@[simp] theorem produce_lanes (w : Waiting) (s : State) : (produce w s).lanes = s.lanes := rfl
@[simp] theorem produce_slots (w : Waiting) (s : State) : (produce w s).slots = s.slots := rfl
@[simp] theorem produce_array (w : Waiting) (s : State) : (produce w s).array = s.array := rfl

@[simp] theorem produceProfileState_pins (s : State) : (produceProfileState s).pins = s.pins := by
  unfold produceProfileState; split <;> rfl
@[simp] theorem produceProfileState_link (s : State) : (produceProfileState s).link = s.link := by
  unfold produceProfileState; split <;> rfl
@[simp] theorem produceProfileState_table (s : State) : (produceProfileState s).table = s.table := by
  unfold produceProfileState; split <;> rfl
@[simp] theorem produceProfileState_lanes (s : State) : (produceProfileState s).lanes = s.lanes := by
  unfold produceProfileState; split <;> rfl
@[simp] theorem produceProfileState_slots (s : State) : (produceProfileState s).slots = s.slots := by
  unfold produceProfileState; split <;> rfl
@[simp] theorem produceProfileState_replies (s : State) : (produceProfileState s).replies = s.replies := by
  unfold produceProfileState; split <;> rfl
@[simp] theorem produceProfileState_array (s : State) : (produceProfileState s).array = s.array := by
  unfold produceProfileState; split <;> rfl

/-- The replies that PROFILE STATE can pass are the PROFILE APPLIED that stand last in the class 1 list. -/
theorem appliedLast_split (before after : List Waiting) (s : State) (h : s.waiting = before ++ after)
    (hafter : ∀ w ∈ after, w.ofPrf = true) (hbefore : ∀ w, before.getLast? = some w → w.ofPrf = false) :
    s.appliedLast = after.length := by
  have hb : before.reverse.takeWhile Waiting.ofPrf = [] := by
    cases hr : before.reverse with
    | nil => rfl
    | cons w ws =>
      have := hbefore w (by rw [← List.head?_reverse, hr]; rfl)
      simp [this]
  rw [State.appliedLast, h, List.reverse_append, List.takeWhile_append_of_pos (by simpa using hafter), hb]
  simp

/-- What producing PROFILE STATE can do: it joins the class 1 list behind every reply but some of the PROFILE APPLIED that
stand last, and nothing else changes but the count of free values drawn (R144, R159). -/
theorem produceProfileState_eq (s : State) : ∃ (before after : List Waiting) (draws : Nat),
    s.waiting = before ++ after ∧ (∀ w ∈ after, w.ofPrf = true) ∧
      produceProfileState s = { s with
        waiting := before ++ .int (.profileState s.prf.active s.prf.staged) :: after, draws := draws } := by
  by_cases h : s.appliedLast = 0
  · exact ⟨s.waiting, [], s.draws, by simp, by simp, by simp only [produceProfileState, if_pos h, produce]⟩
  · refine ⟨_, _, s.draws + 1, (List.take_append_drop
      (s.waiting.length - min s.appliedLast (Config.profileAppliedPassed s.draws)) s.waiting).symm, ?_, by
      simp only [produceProfileState, if_neg h]⟩
    intro w hw
    have hr : w ∈ s.waiting.reverse.take (min s.appliedLast (Config.profileAppliedPassed s.draws)) := by
      rw [List.take_reverse]; exact List.mem_reverse.mpr hw
    have ht : s.waiting.reverse.take s.appliedLast = s.waiting.reverse.takeWhile Waiting.ofPrf :=
      (List.prefix_iff_eq_take.mp (List.takeWhile_prefix _)).symm
    rw [Nat.min_comm, ← List.take_take, ht] at hr
    exact List.mem_takeWhile_imp (List.mem_of_mem_take hr)

@[simp] theorem enqueue_outbound (m : Message) (s : State) :
    (enqueue m s).link.outbound = s.link.outbound ++ [m] := rfl
@[simp] theorem enqueue_pins (m : Message) (s : State) : (enqueue m s).pins = s.pins := rfl
@[simp] theorem enqueue_waiting (m : Message) (s : State) : (enqueue m s).waiting = s.waiting := rfl
@[simp] theorem enqueue_table (m : Message) (s : State) : (enqueue m s).table = s.table := rfl
@[simp] theorem enqueue_lanes (m : Message) (s : State) : (enqueue m s).lanes = s.lanes := rfl
@[simp] theorem enqueue_slots (m : Message) (s : State) : (enqueue m s).slots = s.slots := rfl
@[simp] theorem enqueue_array (m : Message) (s : State) : (enqueue m s).array = s.array := rfl

@[simp] theorem depart_intake (s : State) : (depart s).link.intake = s.link.intake.tail := rfl
@[simp] theorem depart_release (s : State) : (depart s).link.release = s.link.release + 1#8 := rfl
@[simp] theorem depart_pendingCredit (s : State) :
    (depart s).link.pendingCredit = (s.link.pendingCredit || s.link.outbound.isEmpty) := rfl
@[simp] theorem depart_outbound (s : State) : (depart s).link.outbound = s.link.outbound := rfl
@[simp] theorem depart_pins (s : State) : (depart s).pins = s.pins := rfl
@[simp] theorem depart_waiting (s : State) : (depart s).waiting = s.waiting := rfl
@[simp] theorem depart_table (s : State) : (depart s).table = s.table := rfl
@[simp] theorem depart_lanes (s : State) : (depart s).lanes = s.lanes := rfl
@[simp] theorem depart_slots (s : State) : (depart s).slots = s.slots := rfl
@[simp] theorem depart_array (s : State) : (depart s).array = s.array := rfl

@[simp] theorem State.onLink_link (s : State) (f : Link → Link) : (s.onLink f).link = f s.link := rfl
@[simp] theorem State.onLink_pins (s : State) (f : Link → Link) : (s.onLink f).pins = s.pins := rfl
@[simp] theorem State.onLink_waiting (s : State) (f : Link → Link) : (s.onLink f).waiting = s.waiting := rfl
@[simp] theorem State.onLink_table (s : State) (f : Link → Link) : (s.onLink f).table = s.table := rfl
@[simp] theorem State.onLink_lanes (s : State) (f : Link → Link) : (s.onLink f).lanes = s.lanes := rfl
@[simp] theorem State.onLink_array (s : State) (f : Link → Link) : (s.onLink f).array = s.array := rfl

end Machine

end Sys2Proof
end

