-- ==== Sys2Proof/Laws/Settle.lean ====
section
/-!
SUPPORT. What the sender's choice and the due steps do to a state: the choice changes the link only, it is idempotent, and
a settled state is settled by nothing.
-/
namespace Sys2Proof.Machine

/-! ## The sender's choice -/

/-- The choice touches LNK only. -/
theorem kick_eq (s : State) : kick s = { s with link := (kick s).link } := by
  unfold kick; split <;> rfl

@[simp] theorem kick_pending (s : State) : (kick s).pending = s.pending := by rw [kick_eq]
@[simp] theorem kick_pins (s : State) : (kick s).pins = s.pins := by rw [kick_eq]
@[simp] theorem kick_waiting (s : State) : (kick s).waiting = s.waiting := by rw [kick_eq]
@[simp] theorem kick_slots (s : State) : (kick s).slots = s.slots := by rw [kick_eq]
@[simp] theorem kick_table (s : State) : (kick s).table = s.table := by rw [kick_eq]
@[simp] theorem kick_replies (s : State) : (kick s).replies = s.replies := by rw [kick_eq]
@[simp] theorem kick_lanes (s : State) : (kick s).lanes = s.lanes := by rw [kick_eq]
@[simp] theorem kick_rst (s : State) : (kick s).rst = s.rst := by rw [kick_eq]
@[simp] theorem kick_itg (s : State) : (kick s).itg = s.itg := by rw [kick_eq]
@[simp] theorem kick_prf (s : State) : (kick s).prf = s.prf := by rw [kick_eq]
@[simp] theorem kick_stc (s : State) : (kick s).stc = s.stc := by rw [kick_eq]
@[simp] theorem kick_snu (s : State) : (kick s).snu = s.snu := by rw [kick_eq]
@[simp] theorem kick_array (s : State) : (kick s).array = s.array := by rw [kick_eq]
@[simp] theorem kick_draws (s : State) : (kick s).draws = s.draws := by rw [kick_eq]

@[simp] theorem kick_running (s : State) : (kick s).running = s.running := by simp [State.running]

/-- The choice depends on the link and the pins only. -/
theorem kick_link_congr {s t : State} (hl : t.link = s.link) (hp : t.pins = s.pins) : (kick t).link = (kick s).link := by
  unfold kick State.running
  rw [hl, hp]
  split <;> simp [hl]

/-- A change that leaves link and pins alone leaves the sender with nothing new to choose. -/
theorem kick_of_kick {s t : State} (h : kick s = s) (hl : t.link = s.link) (hp : t.pins = s.pins) : kick t = t := by
  have hk : (kick t).link = t.link := by rw [kick_link_congr hl hp, h, hl]
  rw [kick_eq, hk]

/-- A choice either begins a transmission or changes nothing. -/
theorem Link.choose_cases (l : Link) : l.choose = l ∨ l.choose.transmission.isSome = true := by
  unfold Link.choose
  split
  · exact Or.inr rfl
  · split
    · exact Or.inr rfl
    · split
      · exact Or.inl rfl
      · split
        · split
          · exact Or.inl rfl
          · exact Or.inr rfl
        · split
          · exact Or.inl rfl
          · split
            · exact Or.inr rfl
            · exact Or.inl rfl

/-- A second choice changes nothing. -/
theorem kick_kick (s : State) : kick (kick s) = kick s := by
  unfold kick
  split
  · next h =>
    rcases Link.choose_cases s.link with hc | hc
    · simp only [hc]
      split <;> simp
    · have : ¬ (({ s with link := s.link.choose } : State).running &&
          ({ s with link := s.link.choose } : State).link.transmission.isNone) = true := by
        simp [Option.isNone_iff_eq_none, Option.isSome_iff_ne_none.mp hc]
      rw [if_neg this]
  · rfl

/-! ## Due steps -/

theorem settleFor_of_settled {s : State} (h : s.settled) : ∀ n, settleFor n s = s
  | 0 => h.1
  | n + 1 => by
    rw [settleFor, h.1, h.2]

/-- In a settled state no step is due, so the settling changes nothing. -/
theorem settle_of_settled {s : State} (h : s.settled) : settle s = s := settleFor_of_settled h 32

/-- While the part is held or without supply the sender chooses nothing (R161, R165). -/
theorem kick_of_not_running {s : State} (h : s.running = false) : kick s = s := by
  rw [kick, h]
  rfl

/-- While the part is held or without supply nothing is due. -/
theorem settled_of_not_running {s : State} (h : s.running = false) : s.settled :=
  ⟨kick_of_not_running h, by rw [State.due, h]; rfl⟩

/-- An event that occurs only while the part runs leaves a part that is held or without supply as it is. -/
theorem event_of_not_running {s : State} (h : s.running = false) (f : State → State) :
    event (whileRunning f) s = .next s := by
  have hw : ¬ (s.running = true) := by simp [h]
  rw [event, settle_of_settled (settled_of_not_running h), whileRunning, if_neg hw, kick_of_not_running h]

/-- What a command does in a settled state: its own event and the sender's choice after it. -/
theorem event_of_settled {s : State} (h : s.settled) (f : State → State) : event f s = .next (kick (f s)) := by
  rw [event, settle_of_settled h]

/-- The same for an event that occurs only while the part runs. -/
theorem event_whileRunning {s : State} (h : s.settled) (hr : s.running = true) (f : State → State) :
    event (whileRunning f) s = .next (kick (f s)) := by
  rw [event_of_settled h, whileRunning, if_pos hr]

/-- The same for a command of INT's, when the oldest frame of the intake is one of its row. -/
theorem event_intTakes {s : State} (h : s.settled) {m : List Byte} {row : RequestRow} (hm : s.intHead = some m)
    (hrow : rowOf m = row) (owner : Request → State → State) :
    event (intTakes row owner) s =
      .next (kick (match decodeMessage m with
        | .bad reason => refuse (byteAt m 1) (byteAt m 2) reason s
        | .ok r => owner r s)) := by
  rw [event_of_settled h, intTakes, hm]
  exact congrArg (fun t => Host.Outcome.next (kick t)) (if_pos hrow)

/-- A reply produced in a settled state leaves the sender as it is. -/
theorem kick_reply {s : State} (h : s.settled) (m : Message) : kick (reply m s) = reply m s :=
  kick_of_kick h.1 rfl rfl

theorem kick_refuse {s : State} (h : s.settled) (slot tag : Byte) (r : Reason) :
    kick (refuse slot tag r s) = refuse slot tag r s :=
  kick_of_kick h.1 rfl rfl

/-! ## Shared operations, each said once -/

/-- All that a posting can do (R175): a masked notice does nothing, a queue with room takes it, a full one counts it. -/
theorem postNotice_cases (n : Notice) (s : State) :
    (s.noticeEnabled n = false ∧ postNotice n s = s) ∨
    (s.noticeEnabled n = true ∧ s.snu.queue.length < 8 ∧
      postNotice n s = { s with snu := { s.snu with queue := s.snu.queue ++ [n] } }) ∨
    (s.noticeEnabled n = true ∧ 8 ≤ s.snu.queue.length ∧
      postNotice n s = { s with snu := { s.snu with lost := if s.snu.lost < 255 then s.snu.lost + 1 else s.snu.lost } }) := by
  unfold postNotice
  by_cases h : s.noticeEnabled n = true
  · by_cases hq : s.snu.queue.length < 8
    · exact Or.inr (Or.inl ⟨h, hq, by simp [h, hq]⟩)
    · exact Or.inr (Or.inr ⟨h, by omega, by simp [h, hq]⟩)
  · exact Or.inl ⟨by simpa using h, by simp [h]⟩

theorem postNotice_eq (n : Notice) (s : State) : postNotice n s = { s with snu := (postNotice n s).snu } := by
  rcases postNotice_cases n s with ⟨-, h⟩ | ⟨-, -, h⟩ | ⟨-, -, h⟩ <;> rw [h]

/-- All that an offer to the suspect list can do (R83). -/
theorem offerSuspect_cases (loc : Location) (spare : Option SpareId) (s : State) :
    (s.suspect loc = true ∧ offerSuspect loc spare s = s) ∨
    (s.suspect loc = false ∧ s.itg.suspects.length < 16 ∧
      offerSuspect loc spare s = postNotice (.suspectAdded loc)
        { s with itg := { s.itg with suspects := s.itg.suspects ++ [{ location := loc, spare := spare }] } }) ∨
    (s.suspect loc = false ∧ 16 ≤ s.itg.suspects.length ∧
      offerSuspect loc spare s = postNotice (.suspectFull loc)
        { s with itg := { s.itg with overflow := bump s.itg.overflow } }) := by
  unfold offerSuspect
  by_cases h : s.suspect loc = true
  · exact Or.inl ⟨h, by simp [h]⟩
  · have hf : s.suspect loc = false := by simpa using h
    by_cases hl : s.itg.suspects.length < 16
    · exact Or.inr (Or.inl ⟨hf, hl, by simp [hf, hl]⟩)
    · exact Or.inr (Or.inr ⟨hf, by omega, by simp [hf, hl]⟩)

/-- All that SES does at a fall of a slot's count (R98). -/
theorem countFell_cases (k : SlotId) (s : State) :
    (s.entryCount k = 0 ∧ (s.slot k).state = .detached ∧ countFell k s = s.setSlot k Slot.unused) ∨
    (s.entryCount k = 0 ∧ (s.slot k).state = .closing ∧
      countFell k s = produce (.closed k (s.slot k).discarded) s) ∨
    ((s.entryCount k ≠ 0 ∨ (s.slot k).state = .free ∨ (s.slot k).state = .opened) ∧ countFell k s = s) := by
  unfold countFell closeIfDrained
  by_cases hc : s.entryCount k = 0 <;> cases hs : (s.slot k).state <;> simp [hc]

end Sys2Proof.Machine
end

