-- ==== Sys2Proof/Laws/Scheduler.lean ====
section
/-!
SUPPORT. What a lane's decision, the freeing of an entry and the completion of FENCEs can change, each said once.
-/
namespace Sys2Proof.Machine

/-! ## What the target page is judged by (R46) -/

theorem State.suspect_iff (s : State) (loc : Location) :
    s.suspect loc = true ↔ ∃ r ∈ s.itg.suspects, r.location = loc := by
  simp [State.suspect]

theorem State.remappingOn_iff (s : State) :
    s.remappingOn = true ↔ ∃ p : Profile, s.prf.active = some p ∧ p.remapping = true := by
  cases h : s.prf.active <;> simp [State.remappingOn, h]

theorem Lane.remapOf_isSome_iff (l : Lane) (loc : Location) :
    (l.remapOf loc).isSome = true ↔ ∃ r ∈ l.remaps, r.page = loc.page ∧ r.line = loc.line := by
  simp [Lane.remapOf, List.find?_isSome]

theorem mem_allLanes : ∀ a : LaneId, a ∈ allLanes := by decide

theorem Lane.lowestFree_isSome_iff (l : Lane) :
    l.lowestFree.isSome = true ↔ ∃ i : SpareId, l.spares.get i = .free := by
  simp [Lane.lowestFree, List.find?_isSome, mem_allLanes]

/-- A WRITE would be remapped at its selection when three things hold together (R46). -/
theorem State.wouldRemap_iff (s : State) (loc : Location) :
    s.wouldRemap loc = true ↔ (∃ r ∈ s.itg.suspects, r.location = loc) ∧
      (∃ p : Profile, s.prf.active = some p ∧ p.remapping = true) ∧
      ∃ i : SpareId, (s.lane loc.lane).spares.get i = .free := by
  simp only [State.wouldRemap, Bool.and_eq_true, State.suspect_iff, State.remappingOn_iff, Lane.lowestFree_isSome_iff,
    and_assoc]

/-! ## What a decision can change -/

/-- State `t` differs from `s` at most in the lanes' records, ITG, SNU and the fields of the entries of the table: the
table has the same entries in the same order. -/
def State.Decided (s t : State) : Prop :=
  t = { s with lanes := t.lanes, itg := t.itg, snu := t.snu, table := t.table } ∧
    t.table.map (·.key) = s.table.map (·.key)

theorem State.Decided.refl (s : State) : s.Decided s := ⟨rfl, rfl⟩

theorem State.Decided.trans {s t u : State} (h : s.Decided t) (k : t.Decided u) : s.Decided u := by
  refine ⟨?_, k.2.trans h.2⟩
  have hk := k.1
  rw [h.1] at hk
  exact hk

theorem decided_setLane (a : LaneId) (l : Lane) (s : State) : s.Decided (s.setLane a l) := ⟨rfl, rfl⟩

theorem decided_setLaneState (a : LaneId) (st : LaneState) (s : State) : s.Decided (s.setLaneState a st) := ⟨rfl, rfl⟩

theorem decided_onEntry (k : EntryKey) (f : Entry → Entry) (hf : ∀ e, (f e).key = e.key) (s : State) :
    s.Decided (s.onEntry k f) := by
  refine ⟨rfl, ?_⟩
  simp only [State.onEntry_table, List.map_map]
  exact List.map_congr_left fun e _ => by
    dsimp only [Function.comp]
    split
    · exact hf e
    · rfl

theorem decided_postNotice (n : Notice) (s : State) : s.Decided (postNotice n s) := by
  rw [postNotice_eq]
  exact ⟨rfl, rfl⟩

theorem decided_raisePasses (passed : List EntryKey) (s : State) : s.Decided (raisePasses passed s) := by
  refine ⟨rfl, ?_⟩
  simp only [raisePasses, List.map_map]
  exact List.map_congr_left fun e _ => by
    dsimp only [Function.comp]
    split <;> rfl

/-- ITG's decision at a selection (R91, R92). -/
theorem decided_selectWrite (k : EntryKey) (loc : Location) (s : State) : s.Decided (selectWrite k loc s) := by
  unfold selectWrite
  split
  · split
    · exact State.Decided.trans (⟨rfl, rfl⟩ : s.Decided _)
        (decided_onEntry k (fun e => { e with remapped := true }) (fun _ => rfl) _)
    · split
      · exact State.Decided.refl s
      · exact (decided_setLane _ _ s).trans (decided_postNotice _ _)
  · exact State.Decided.refl s

/-- The service of an entry (R57). -/
theorem decided_serve (a : LaneId) (p : PageName) (k : EntryKey) (passed : List EntryKey) (s : State) :
    s.Decided (serve a p k passed s) := by
  unfold serve
  split
  · exact State.Decided.refl s
  · split
    · exact State.Decided.refl s
    · next loc _ =>
      refine State.Decided.trans ?_ (decided_setLaneState _ _ _)
      refine State.Decided.trans ?_ (decided_onEntry k (fun e => { e with state := .active }) (fun _ => rfl) _)
      split
      · exact (decided_raisePasses passed s).trans (decided_selectWrite k loc _)
      · exact decided_raisePasses passed s

/-- What a scheduler's action begins (R10, R15, R16, R57). -/
theorem decided_act (a : LaneId) (d : Action) (s : State) : s.Decided (act a d s) := by
  unfold act
  split
  · exact decided_serve ..
  · exact decided_setLaneState ..
  · exact decided_setLaneState ..
  · exact decided_setLaneState ..
  · exact State.Decided.refl s

theorem decided_decideLane (s : State) (a : LaneId) : s.Decided (decideLane s a) := decided_act a _ s

/-- The decisions of several lanes (R48). -/
theorem decided_tell : ∀ (lanes : List LaneId) (s : State), s.Decided (tell lanes s)
  | [], s => State.Decided.refl s
  | a :: lanes, s => (decided_decideLane s a).trans (decided_tell lanes (decideLane s a))

theorem decided_tellChanged (before after : State) : after.Decided (tellChanged before after) := decided_tell ..

/-- A lane that is not idle is left alone by its own decision (R48). -/
theorem decideLane_of_not_idle {s : State} {a : LaneId} (h : (s.lane a).state.idle = false) : decideLane s a = s := by
  unfold decideLane act State.decision
  cases hs : (s.lane a).state <;> simp_all [LaneState.idle]

/-! ## Entries -/

/-- FENCEs that complete keep the table's entries, their order and everything but state and outcome (R26). -/
theorem completeFencesFrom_keys (check : Entry → Bool) : ∀ older es : List Entry,
    (completeFencesFrom check older es).1.map (·.key) = es.map (·.key)
  | _, [] => rfl
  | older, e :: rest => by
    unfold completeFencesFrom
    split
    · exact congrArg (e.key :: ·) (completeFencesFrom_keys check _ rest)
    · exact congrArg (e.key :: ·) (completeFencesFrom_keys check _ rest)

/-- The FENCEs checked change the table and the reply list only (R26, R30). -/
theorem completeFences_eq (check : Entry → Bool) (s : State) :
    completeFences check s =
      { s with
        table := (completeFences check s).table
        replies := s.replies ++ (completeFencesFrom check [] s.table).2 } := rfl

theorem completeFences_keys (check : Entry → Bool) (s : State) :
    (completeFences check s).table.map (·.key) = s.table.map (·.key) := completeFencesFrom_keys check [] s.table

/-- A place freed changes the table, the reply list, the slots and the class 1 list only (R22, R23, R30, R98). -/
theorem freeEntry_eq (k : EntryKey) (s : State) :
    freeEntry k s =
      { s with
        table := s.table.filter (fun e => e.key != k)
        replies := s.replies.filter (fun r => r != k)
        slots := (freeEntry k s).slots
        waiting := (freeEntry k s).waiting } := by
  unfold freeEntry
  rcases countFell_cases k.slot
      { s with table := s.table.filter (fun e => e.key != k), replies := s.replies.filter (fun r => r != k) } with
    ⟨-, -, h⟩ | ⟨-, -, h⟩ | ⟨-, h⟩ <;> rw [h] <;> rfl

/-! ## The link -/

/-- All that an acknowledgement can do (R152). -/
theorem Link.acknowledge_cases (l : Link) (k : Byte) :
    (l.listed k = true ∧ l.acknowledge k = l.progress (framesAfter k l.replay)) ∨
    (l.listed k = false ∧ k = l.acknowledgedPoint ∧ l.acknowledge k = l) ∨
    (l.listed k = false ∧ k ≠ l.acknowledgedPoint ∧
      l.acknowledge k = { l with counters := { l.counters with ackRange := bump l.counters.ackRange } }) := by
  unfold Link.acknowledge
  by_cases h : l.listed k = true
  · exact Or.inl ⟨h, if_pos h⟩
  · have hf : l.listed k = false := by simpa using h
    by_cases hk : k = l.acknowledgedPoint
    · exact Or.inr (Or.inl ⟨hf, hk, by rw [if_neg h, if_pos hk]⟩)
    · exact Or.inr (Or.inr ⟨hf, hk, by rw [if_neg h, if_neg hk]⟩)

/-- An acknowledged frame and all older ones leave the replay list: what is left is a tail of it (R152). -/
theorem framesAfter_suffix (k : Byte) : ∀ fs : List Sent, framesAfter k fs <:+ fs
  | [] => List.suffix_refl []
  | f :: fs => by
    unfold framesAfter
    split
    · exact List.suffix_cons f fs
    · exact (framesAfter_suffix k fs).trans (List.suffix_cons f fs)

theorem framesFrom_suffix (k : Byte) : ∀ fs : List Sent, framesFrom k fs <:+ fs
  | [] => List.suffix_refl []
  | f :: fs => by
    unfold framesFrom
    split
    · exact List.suffix_refl _
    · exact (framesFrom_suffix k fs).trans (List.suffix_cons f fs)

end Sys2Proof.Machine
end

