-- ==== Sys2Proof/Laws/Sparse.lean ====
section
/-!
SUPPORT. The laws of the sparse tables and of the array they hold: a read after a write gives the value written, a write
leaves every other key alone, and every operation of the array keeps the canonical form.
-/
namespace Sys2Proof.Machine

/-! ## Sparse tables -/

theorem Sparse.get_put_same {α : Type} [DecidableEq α] (d : α) (k : Nat) (v : α) :
    ∀ (m : List (Nat × α)) (lo : Nat), Sparse.wfFrom d lo m = true → Sparse.get d (Sparse.put d m k v) k = v
  | [], _, _ => by
    by_cases h : v = d <;> simp [Sparse.put, Sparse.get, h]
  | (k', v') :: m, lo, h => by
    simp only [Sparse.wfFrom, Bool.and_eq_true, decide_eq_true_eq] at h
    have below : ∀ (m : List (Nat × α)) (lo : Nat), Sparse.wfFrom d lo m = true → k < lo → Sparse.get d m k = d := by
      intro m
      induction m with
      | nil => intros; rfl
      | cons x m ih =>
        intro lo hm hk
        simp only [Sparse.wfFrom, Bool.and_eq_true, decide_eq_true_eq] at hm
        have : k ≠ x.1 := by omega
        simp only [Sparse.get, this, if_false]
        exact ih _ hm.2 (by omega)
    unfold Sparse.put
    split
    · next hlt =>
      split
      · next hv =>
        have : k ≠ k' := by omega
        simp only [Sparse.get, this, if_false, hv]
        exact below m _ h.2 (by omega)
      · simp [Sparse.get]
    · split
      · next heq =>
        split
        · next hv => rw [hv]; exact below m _ h.2 (by omega)
        · simp [Sparse.get]
      · next hne =>
        simp only [Sparse.get, hne, if_false]
        exact Sparse.get_put_same d k v m _ h.2

theorem Sparse.get_put_other {α : Type} [DecidableEq α] (d : α) (k j : Nat) (v : α) (hj : j ≠ k) :
    ∀ m : List (Nat × α), Sparse.get d (Sparse.put d m k v) j = Sparse.get d m j
  | [] => by
    by_cases h : v = d <;> simp [Sparse.put, Sparse.get, h, hj]
  | (k', v') :: m => by
    unfold Sparse.put
    split
    · split <;> simp [Sparse.get, hj]
    · split
      · next heq =>
        subst heq
        split <;> simp [Sparse.get, hj]
      · simp only [Sparse.get]
        split
        · rfl
        · exact Sparse.get_put_other d k j v hj m

theorem Sparse.wfFrom_mono {α : Type} [DecidableEq α] (d : α) {m : List (Nat × α)} {lo lo' : Nat} (hle : lo' ≤ lo)
    (h : Sparse.wfFrom d lo m = true) : Sparse.wfFrom d lo' m = true := by
  cases m with
  | nil => rfl
  | cons x m =>
    simp only [Sparse.wfFrom, Bool.and_eq_true, decide_eq_true_eq] at h ⊢
    exact ⟨⟨by omega, h.1.2⟩, h.2⟩

theorem Sparse.put_wfFrom {α : Type} [DecidableEq α] (d : α) (k : Nat) (v : α) :
    ∀ (m : List (Nat × α)) (lo : Nat), lo ≤ k → Sparse.wfFrom d lo m = true →
      Sparse.wfFrom d lo (Sparse.put d m k v) = true
  | [], lo, hk, _ => by
    by_cases h : v = d <;> simp [Sparse.put, Sparse.wfFrom, h, hk]
  | (k', v') :: m, lo, hk, h => by
    have h' := h
    simp only [Sparse.wfFrom, Bool.and_eq_true, decide_eq_true_eq] at h'
    unfold Sparse.put
    split
    · next hlt =>
      split
      · exact h
      · next hv =>
        simp only [Sparse.wfFrom, Bool.and_eq_true, decide_eq_true_eq]
        exact ⟨⟨hk, hv⟩, ⟨by omega, h'.1.2⟩, h'.2⟩
    · split
      · next heq =>
        split
        · exact Sparse.wfFrom_mono d (by omega) h'.2
        · next hv =>
          simp only [Sparse.wfFrom, Bool.and_eq_true, decide_eq_true_eq]
          exact ⟨⟨hk, hv⟩, by rw [heq]; exact h'.2⟩
      · simp only [Sparse.wfFrom, Bool.and_eq_true, decide_eq_true_eq]
        exact ⟨h'.1, Sparse.put_wfFrom d k v m _ (by omega) h'.2⟩

/-- A write keeps the canonical form. -/
theorem Sparse.put_wf {α : Type} [DecidableEq α] (d : α) (m : List (Nat × α)) (k : Nat) (v : α)
    (h : Sparse.wf d m = true) : Sparse.wf d (Sparse.put d m k v) = true :=
  Sparse.put_wfFrom d k v m 0 (Nat.zero_le k) h

/-- A read after a write to the same key. -/
theorem Sparse.get_put_of_wf {α : Type} [DecidableEq α] (d : α) (m : List (Nat × α)) (k : Nat) (v : α)
    (h : Sparse.wf d m = true) : Sparse.get d (Sparse.put d m k v) k = v :=
  Sparse.get_put_same d k v m 0 h

/-! ## The bytes of the array -/

theorem putBytes_wf : ∀ (bs : List Byte) (cells : List Host.Cell) (address : Nat),
    Sparse.wf 0#8 cells = true → Sparse.wf 0#8 (putBytes cells address bs) = true
  | [], _, _, h => h
  | b :: bs, cells, address, h => putBytes_wf bs _ _ (Sparse.put_wf 0#8 cells address b h)

/-- A byte outside the bytes put is as before. -/
theorem get_putBytes_other (j : Nat) : ∀ (bs : List Byte) (cells : List Host.Cell) (address : Nat),
    (j < address ∨ address + bs.length ≤ j) → Sparse.get 0#8 (putBytes cells address bs) j = Sparse.get 0#8 cells j
  | [], _, _, _ => rfl
  | b :: bs, cells, address, h => by
    have hne : j ≠ address := by
      rcases h with h | h
      · omega
      · simp only [List.length_cons] at h; omega
    have hrest : j < address + 1 ∨ address + 1 + bs.length ≤ j := by
      rcases h with h | h
      · exact Or.inl (by omega)
      · simp only [List.length_cons] at h; exact Or.inr (by omega)
    rw [putBytes, get_putBytes_other j bs _ _ hrest, Sparse.get_put_other 0#8 address j b hne]

/-- A byte among the bytes put is the byte put. -/
theorem get_putBytes_same : ∀ (bs : List Byte) (cells : List Host.Cell) (address i : Nat),
    Sparse.wf 0#8 cells = true → i < bs.length →
      Sparse.get 0#8 (putBytes cells address bs) (address + i) = bs.getD i 0#8
  | b :: bs, cells, address, 0, h, _ => by
    rw [putBytes, get_putBytes_other _ bs _ _ (Or.inl (by omega))]
    simpa using Sparse.get_put_of_wf 0#8 cells address b h
  | b :: bs, cells, address, i + 1, h, hi => by
    have := get_putBytes_same bs (Sparse.put 0#8 cells address b) (address + 1) i
      (Sparse.put_wf 0#8 cells address b h) (by simpa using hi)
    rw [putBytes]
    simpa [Nat.add_assoc, Nat.add_comm 1 i] using this

/-! ## The array -/

/-- The tables of an array in canonical form. -/
abbrev Storage.canonical (m : Storage) : Prop :=
  Sparse.wf 0#8 m.cells = true ∧ Sparse.wf Damage.intact m.damage = true ∧ Sparse.wf 0 m.restoredAt = true

theorem Storage.write_canonical {m : Storage} (l : ArrayLine) (bytes : List Byte) (h : m.canonical) :
    (m.write l bytes).canonical :=
  ⟨putBytes_wf _ _ _ h.1, Sparse.put_wf _ _ _ _ h.2.1, h.2.2⟩

theorem Storage.spoil_canonical {m : Storage} (l : ArrayLine) (draw : Nat) (h : m.canonical) :
    (m.spoil l draw).canonical := by
  unfold Storage.canonical Storage.spoil
  dsimp only
  exact ⟨putBytes_wf _ _ _ h.1, Sparse.put_wf _ _ _ _ h.2.1, h.2.2⟩

theorem Storage.restore_canonical {m : Storage} (a : LaneId) (p : PageName) (h : m.canonical) :
    (m.restore a p).canonical :=
  ⟨h.1, h.2.1, Sparse.put_wf _ _ _ _ h.2.2⟩

theorem Storage.step_canonical {m : Storage} (a : LaneId) (p : Fin 16384) (h : m.canonical) :
    (m.step a p).canonical := by
  have h2 := Storage.restore_canonical a (.page (p + 1)) (Storage.restore_canonical a (.page p) h)
  unfold Storage.step
  extract_lets n
  change n.canonical at h2
  split
  · exact Storage.restore_canonical _ _ h2
  · exact h2

theorem Storage.initialized_canonical : Storage.initialized.canonical := by decide

/-- A restoration changes no content (R16). -/
theorem Storage.restore_byte (m : Storage) (a : LaneId) (p : PageName) (address : Nat) :
    (m.restore a p).byte address = m.byte address := rfl

/-- What a READ phase finds is not changed by a restoration step (R16). -/
theorem Storage.step_byte (m : Storage) (a : LaneId) (p : Fin 16384) (address : Nat) :
    (m.step a p).byte address = m.byte address := by
  unfold Storage.step
  extract_lets n
  have hn : n.byte address = m.byte address := rfl
  split
  · exact hn
  · exact hn

end Sys2Proof.Machine
end

