-- ==== Sys2Proof/WellFormed.lean ====
section
/-!
DEFINITION. Which commands name something that can happen outside the part: a frame that fits its layout, bytes that do
fail the receiver's check, a degradation that is one.
-/
namespace Sys2Proof

/-- A message fits a frame: its length is one byte (R182). -/
def messageFits (message : List Byte) : Bool := decide (message.length < 256)

/-- A run of bytes fails the check or the shape check, or its class code names no class (R147). -/
def frameFails (frame : List Byte) : Bool :=
  match Machine.receive frame with
  | .failed _ => true
  | _ => false

/-- A degradation raises a level, so it is to correctable or uncorrectable (R19). -/
def levelIsDamage (level : Damage) : Bool := decide (level ≠ .intact)

/-- The well-formed commands. Every other row's operands may take every value of their types. -/
def Instr.wellFormed : Instr → Bool
  | .downSequencedFrame _ _ message => messageFits message
  | .downFrameCheckFailed frame => frameFails frame
  | .lineDegradation _ level _ => levelIsDamage level
  | _ => true

end Sys2Proof
end

