-- ==== Sys2Proof/Tests/Slice0.lean ====
section
/-!
SUPPORT. Tests on fixed values. Part 1 takes its expected results from the tables and worked examples of the manual.
Part 2 shows, for each statement with hypotheses, a state and operands that meet them, clause by clause.
-/
namespace Sys2Proof.Tests

open Sys2Proof.Machine

-- The theorems are many and small: elaborating them one at a time keeps the number of threads low.
set_option Elab.async false

/-! ## States to test on -/

/-- A profile in range. -/
def profile : Profile :=
  { label := 7, map := .laneSpread, policy := .hold, wordOrder := .interleaved, ageCap := 2, deferral := 4, hot := .auto
    writeBack := true, remapping := true
    mask := { tempBand := true, suspectAdded := true, suspectFull := true, sparesExhausted := true
              restorationOverrun := true, noticesLost := true } }

/-- A READY part at rest: slot 1 OPEN with window 2, ORDERED; slot 2 OPEN with window 1; an active profile; every lane
CLOSED with nothing to do; the channel idle. -/
def ready : State :=
  { State.reset with
    link := { Link.afterReset LinkCounters.zero with pendingCredit := false }
    slots := ⟨⟨.opened, 2, .ordered, 0⟩, ⟨.opened, 1, .free, 0⟩, Slot.unused, Slot.unused⟩
    lanes := Eight.replicate { Lane.reset with debt := -2 }
    rst := { timer := some .single, band := .cool, lastReading := none, interval := some .oneMs }
    prf := { active := some profile, staged := none, processing := none }
    stc := { device := .ready, initializing := false, waking := false, restOwed := false, wakeOwed := false }
    array := Storage.initialized }

/-- The part with a message at the head of the intake. -/
def taking (m : List Byte) (s : State) : State := { s with link := { s.link with intake := [m] } }

/-- The part in another device state. -/
def inDevice (d : Device) (s : State) : State := { s with stc := { s.stc with device := d } }

/-- The part with a profile staged. -/
def staging (s : State) : State := { s with prf := { s.prf with staged := some profile } }

/-- A location, and an entry of slot 1 there. Under LANE_SPREAD host address 41 names lane 1, page 0, line 9 (R4). -/
def place : Location := { lane := 1, page := 0, line := 9 }

def key (slot : SlotId) (tag : Byte) : EntryKey := { slot := slot, tag := tag }

/-- An entry of a kind, in a state, at `place`. -/
def entry (k : EntryKey) (kind : EntryKind) (st : EntryState) : Entry :=
  { Entry.new k kind with state := st, location := if kind.isFence then none else some place }

def line0 : List Byte := List.replicate 64 0x11#8

def readKind0 : EntryKind := .read 41 3 .full
def writeKind0 : EntryKind := .write 41 line0
def mergeKind0 : EntryKind := .merge 41 (List.replicate 8 0x81#8) line0

/-- The part with a table and lane 1 in a lane state. -/
def working (table : List Entry) (st : LaneState) : State :=
  State.setLaneState { ready with table := table } 1 st

/-- Lane 1 performing a phase of the first entry at `place`. -/
def inPhase (e : Entry) (ph : Phase) : State := working [e] (.access (.page 0) e.key ph (.host place))

/-- The part with a level of damage at `place`. -/
def damaged (level : Damage) (s : State) : State :=
  { s with array := { s.array with damage := Sparse.put .intact [] (lineNumber (.host place)) level } }

/-- The next state that an outcome answers, if it answers one. -/
def after (o : Host.Outcome State Fault Refusal) : Option State :=
  match o with
  | .next s => some s
  | _ => none

/-- A frame of the replay list. -/
def sent (n : Byte) : Sent := { sequence := n, message := .rested }

/-! ## Part 1. Well-formed commands -/

/-- A message of 256 bytes fits no frame (R182). -/
theorem test_overlong_message_refused :
    (Instr.downSequencedFrame 0#8 0#8 (List.replicate 256 0#8)).wellFormed = false ∧
      (Instr.downSequencedFrame 0#8 0#8 (List.replicate 255 0#8)).wellFormed = true := by decide +kernel

/-- A sound ACK frame is not one that fails its check (R147). -/
theorem test_sound_frame_is_no_failed_frame :
    (Instr.downFrameCheckFailed (downFrame (.ack 5#8))).wellFormed = false ∧
      (Instr.downFrameCheckFailed [0x20#8, 5#8]).wellFormed = true := by decide +kernel

/-- A degradation to no damage is none (R19). -/
theorem test_degradation_to_intact_refused :
    (Instr.lineDegradation (.host place) .intact 25).wellFormed = false ∧
      (Instr.lineDegradation (.host place) .correctable 25).wellFormed = true := by decide

/-! ## Part 1. The tables and examples of the manual -/

/-- The check value of R185. -/
theorem test_check_code_of_the_nine_digits :
    crc16 [0x31#8, 0x32#8, 0x33#8, 0x34#8, 0x35#8, 0x36#8, 0x37#8, 0x38#8, 0x39#8] = 0x29B1#16 := by decide +kernel

/-- The address table of section 1.2. -/
theorem test_address_table :
    [300, 1000, 524288, 4194303].map (locate .pageMajor) = [⟨0, 9, 12⟩, ⟨0, 31, 8⟩, ⟨1, 0, 0⟩, ⟨7, 16383, 31⟩] ∧
      [300, 1000, 524288, 4194303].map (locate .laneSpread) = [⟨1, 1, 12⟩, ⟨7, 3, 8⟩, ⟨0, 2048, 0⟩, ⟨7, 16383, 31⟩] := by
  decide +kernel

/-- The table behind R120. -/
theorem test_word_order_table :
    (List.range 16).map (replyWord .sequential 13 .full) = [13, 14, 15, 0, 1, 2, 3, 4, 5, 6, 7, 8, 9, 10, 11, 12] ∧
      (List.range 16).map (replyWord .interleaved 3 .full) = [3, 2, 1, 0, 7, 6, 5, 4, 11, 10, 9, 8, 15, 14, 13, 12] ∧
      (List.range 8).map (replyWord .sequential 13 .short) = [13, 14, 15, 8, 9, 10, 11, 12] ∧
      (List.range 8).map (replyWord .interleaved 5 .short) = [5, 4, 7, 6, 1, 0, 3, 2] := by decide +kernel

/-- A NOTICE and a SUSPECT TABLE, written out from section 12.4: page 300 is the bytes 0x2C and 0x01. -/
theorem test_message_bytes :
    (Message.notice (.suspectAdded ⟨7, 300, 31⟩)).bytes = [0xE0#8, 0#8, 0#8, 2#8, 7#8, 0x2C#8, 1#8, 31#8] ∧
      (Message.suspectTable [⟨⟨7, 300, 31⟩, none⟩, ⟨⟨0, 0, 1⟩, some 6⟩]).bytes =
        [0xC1#8, 0#8, 0#8, 2#8, 7#8, 0x2C#8, 1#8, 31#8, 0xFF#8, 0#8, 0#8, 0#8, 1#8, 6#8] := by decide +kernel

/-- The example behind R184: a READ of 5 bytes is refused BAD_LENGTH with slot 2 and tag 9. -/
theorem test_short_read_is_refused :
    after (exec .read (taking [0x01#8, 0x02#8, 0x09#8, 0x00#8, 0x00#8] ready)) =
      some { taking [0x01#8, 0x02#8, 0x09#8, 0x00#8, 0x00#8] ready with
        waiting := [.int (.refused 2#8 9#8 .badLength 0)] } := by decide +kernel

/-- The part of the example of section 7.8: slot 3 OPEN with window 2, tag 4 a WRITE of host address 5,000 in lane 4. -/
def example78 : State :=
  { ready with
    slots := ⟨Slot.unused, Slot.unused, ⟨.opened, 2, .ordered, 0⟩, Slot.unused⟩
    table := [{ Entry.new (key 2 4#8) (.write 5000 line0) with state := .queued, location := some ⟨4, 19, 8⟩ }] }

/-- The class 1 reply that waits after a command. -/
def intReply (o : Host.Outcome State Fault Refusal) : Option Waiting := (after o).bind (·.waiting.head?)

/-- The refusals of the example of section 7.8, in order. -/
theorem test_refusals_of_the_data_request_example :
    intReply (exec .read (taking (Request.read 3#8 4#8 10 0#8 0#8).bytes example78)) =
        some (.int (.refused 3#8 4#8 .duplicateTag 0)) ∧
      intReply (exec .read (taking (Request.read 3#8 5#8 4194304 20#8 0#8).bytes example78)) =
        some (.int (.refused 3#8 5#8 .badAddress 0)) ∧
      intReply (exec .merge (taking (Request.merge 3#8 5#8 5000 (List.replicate 8 0#8) line0).bytes example78)) =
        some (.int (.refused 3#8 5#8 .badField 0)) ∧
      intReply (exec .read (taking (Request.read 1#8 0#8 5000 0#8 0#8).bytes example78)) =
        some (.int (.refused 1#8 0#8 .noSession 0)) := by decide +kernel

/-- The next request of that example is accepted: QUEUED in lane 4, blocked by line. -/
theorem test_accepted_read_of_the_example :
    (after (exec .read (taking (Request.read 3#8 5#8 5000 3#8 0#8).bytes example78))).map
        (fun s => ((s.laneQueue 4).map (·.key), (s.eligible 4).map (·.key), s.entryCount 2)) =
      some ([key 2 4#8, key 2 5#8], [key 2 4#8], 2) := by decide +kernel

/-- Rows of the example of section 4.8, D = 4: a step at debt 5 leaves 4, which is above the clearing level 1, so the flag
stays and a step begins; one at debt 2 clears the flag. -/
def forcedLane (debt : Int) (pointer : Fin 16384) : State :=
  ready.setLane 5 { Lane.reset with state := .restoring, debt := debt, forced := true, pointer := pointer }

theorem test_forced_episode_runs_on :
    (after (exec (.restorationStepCompletion 5) (forcedLane 5 1200))).map
        (fun s => ((s.lane 5).state, (s.lane 5).debt, (s.lane 5).forced, (s.lane 5).pointer)) =
      some (.restoring, 4, true, 1202) := by decide +kernel

theorem test_forced_flag_clears_at_its_level :
    (after (exec (.restorationStepCompletion 5) (forcedLane 2 1208))).map
        (fun s => ((s.lane 5).debt, (s.lane 5).forced, (s.lane 5).pointer)) =
      some (1, false, 1210) := by decide +kernel

/-- The remapping WRITE of the example of section 5.4: at the completion of the open of the spare row, B takes spare 1. -/
def example54 : State :=
  { State.setLane ready 4 { Lane.reset with
      state := .opening .spareRow
      remaps := [⟨12, 30, 0⟩]
      spares := (Eight.replicate .free).set 0 .inUse } with
    itg := { suspects := [⟨⟨1, 500, 7⟩, none⟩, ⟨⟨4, 28, 4⟩, none⟩], overflow := 0 }
    table := [{ Entry.new (key 0 10#8) (.write 7300 line0) with state := .queued, location := some ⟨4, 28, 4⟩ }] }

theorem test_remapping_write_of_the_example :
    (after (exec (.pageOpenCompletion 4) example54)).map
        (fun s => ((s.lane 4).state, (s.lane 4).remaps, (s.lane 4).spares.get 1, s.itg.suspects)) =
      some (.access .spareRow (key 0 10#8) .write (.spare 4 1), [⟨12, 30, 0⟩, ⟨28, 4, 1⟩], .inUse, [⟨⟨1, 500, 7⟩, none⟩]) := by
  decide +kernel

/-- The down channel of the example of section 9.9 before frame 22: expected 21, an episode running, 38 to 40 listed. -/
def example99 : State :=
  { ready with link :=
    { ready.link with
      expected := 21#8, episode := true, intake := [[], [], []], release := 18#8, nextUp := 41#8, timer := true
      replay := [sent 38#8, sent 39#8, sent 40#8]
      transmission := some { content := .credit, expected := 21#8, release := 18#8 } } }

/-- Frame 22 with acknowledgement 39: frames 38 and 39 go, the frame is discarded with no further REJECT. -/
theorem test_frame_ahead_in_an_episode :
    after (exec (.downSequencedFrame 39#8 22#8 []) example99) =
      some { example99 with link := { example99.link with replay := [sent 40#8] } } := by decide +kernel

/-- Frame 20 again with acknowledgement 37: a duplicate, at d = 255. -/
theorem test_frame_gone_back_is_a_duplicate :
    after (exec (.downSequencedFrame 37#8 20#8 []) example99) =
      some { example99 with link := { example99.link with
        counters := { LinkCounters.zero with duplicate := 1 } } } := by decide +kernel

/-! ## Part 2. States and operands that meet the statements' hypotheses

`atRest` is the premise that most statements share: a settled state of a running part. -/

abbrev atRest (s : State) : Prop := s.settled ∧ s.running = true

/-- The state of the tests is at rest, meets every invariant, and its lanes are CLOSED. -/
theorem witness_ready :
    atRest ready ∧ ready.arrayCanonical ∧ ready.debtsInRange ∧ ready.withinCapacity ∧ ready.tableConsistent ∧
      ready.sessionsConsistent ∧ ready.lanesClosed = true := by decide +kernel

/-- StepRunsTheFrontCommand: a state with a command in front. EveryStepKeeps...: it steps. -/
theorem witness_step :
    ({ ready with pending := [.ack 0#8, .read] } : State).pending = .ack 0#8 :: [.read] ∧
      (after (step { ready with pending := [.ack 0#8, .read] })).map (·.pending) = some [.read] := by decide +kernel

/-- IdleStepTakesTheDueStepsAndLeavesNothingDue: an empty queue with a grant due; a settled state; a held part. -/
theorem witness_idle :
    ({ ready with waiting := [.stc .awake] } : State).pending = [] ∧
      ({ ready with waiting := [.stc .awake] } : State).due = some .stcReply ∧ ready.settled ∧
      ({ ready with pins := { supplied := true, resetN := false } } : State).running = false := by decide +kernel

/-- EveryOtherCommandFindsTheDueStepsTaken: both kinds of command; a state with nothing due, and one with another step
due. -/
theorem witness_due_commands :
    isDueStep .transmissionEnd = false ∧ isDueStep .noticeGrant = true ∧ Due.notice.command = .noticeGrant ∧
      ready.due ≠ some .notice ∧ ({ ready with waiting := [.stc .awake] } : State).due ≠ some .notice ∧
      ({ ready with waiting := [.stc .awake] } : State).due = some .stcReply := by decide +kernel

/-! ### Maps, replies, frames, messages -/

/-- PageMajorMap and LaneSpreadMap: the last address, and the location it names. -/
theorem witness_maps :
    4194303 < 4194304 ∧ locate .pageMajor 4194303 = ⟨7, 16383, 31⟩ ∧ locate .laneSpread 4194303 = ⟨7, 16383, 31⟩ := by
  decide +kernel

/-- An entry whose work has ended. -/
def finished (kind : EntryKind) (status : Status) : Entry :=
  { entry (key 0 9#8) kind .replyWait with buffer := some line0, outcome := some status }

/-- ReadReplyWordOrder: a LOST and a sound READ; a candidate under an active profile. -/
theorem witness_read_reply :
    (finished readKind0 .lost).kind = .read 41 3 .full ∧ (finished readKind0 .lost).outcome = some .lost ∧
      (finished readKind0 .ok).buffer = some line0 ∧ (finished readKind0 .ok).outcome ≠ some .lost ∧
      ({ ready with table := [finished readKind0 .ok], replies := [key 0 9#8] } : State).candidate =
        some (finished readKind0 .ok) ∧ ready.prf.active = some profile := by decide +kernel

/-- DownFramesDecodeToWhatTheyCarry: a frame with the longest message; bytes received as a frame and as a RESEND. -/
theorem witness_down_frames :
    (List.replicate 255 0xA5#8).length < 256 ∧
      receive (sealed [0x10#8, 1#8, 2#8, 1#8, 0x30#8]) = .sequenced 1#8 2#8 [0x30#8] ∧
      receive (sealed [0x21#8, 1#8, 2#8, 0#8]) = .resend 1#8 2#8 := by decide +kernel

/-- DownFramesThatAreDiscarded: each reason, in its order, and a frame that counts as a lost link frame. -/
theorem witness_discarded_frames :
    receive [0x20#8, 1#8, 0#8, 0#8, 0#8, 0#8] = .failed true ∧ receive (sealed [0x10#8]) = .failed false ∧
      receive (sealed [0x10#8, 1#8, 2#8, 2#8, 0x30#8]) = .failed false ∧
      receive (sealed [0x20#8, 1#8, 2#8, 1#8]) = .failed true ∧ receive (sealed [0x30#8, 1#8, 2#8, 0#8]) = .failed false ∧
      receive [] = .failed false := by decide +kernel

/-- RequestMessagesDecodeToWhatTheyCarry: a request of each kind, at ends of its fields, and a message that decodes. -/
theorem witness_requests :
    (∀ r ∈ [Request.read 255#8 255#8 16777215 255#8 255#8, .write 1#8 0#8 0 line0,
        .merge 1#8 0#8 16777215 (List.replicate 8 0#8) line0, .fence 0#8 0#8, .openSession 0#8 255#8, .close 9#8 true,
        .setProfile profile.bytes, .getProfile, .rest, .wake, .getStatus true, .getTable 0#8 0#8, .getTable 255#8 255#8,
        .forget 255#8 65535 255#8, .forgetAll], r.wellFormed = true) ∧
      decodeMessage [0x04#8, 7#8, 9#8] = .ok (.fence 7#8 9#8) := by decide +kernel

/-- MalformedMessagesAreRefused: an empty message, an unknown kind, a wrong length, a reserved byte set. -/
theorem witness_malformed :
    (taking [] ready).settled ∧ (taking [] ready).intHead = some [] ∧ requestKind 0x05#8 = none ∧
      (taking [0x05#8, 1#8] ready).intHead = some [0x05#8, 1#8] ∧
      byteAt [0x30#8, 0#8] 0 = RequestKind.rest.code ∧ [0x30#8, 0#8].length ≠ RequestKind.rest.length ∧
      [0x30#8, 0#8, 1#8].length = RequestKind.rest.length ∧ reservedClear .rest [0x30#8, 0#8, 1#8] = false ∧
      reservedClear .forget [0x42#8, 0#8, 0#8, 2#8, 0#8, 0#8, 0#8, 0#8] = false := by decide +kernel

/-- ProfileRecordsDecode: profiles at both ends of their ranges; records with no bad field and with one at an end. -/
theorem witness_profiles :
    { profile with ageCap := 1, deferral := 1 }.wellFormed = true ∧
      { profile with ageCap := 15, deferral := 6 }.wellFormed = true ∧ profile.bytes.length = 11 ∧
      (byteAt profile.bytes 10).toNat < 64 ∧ badProfileField profile.bytes = none ∧
      badProfileField (profile.bytes.set 5 16#8) = some 5 ∧ badProfileField (profile.bytes.set 6 0#8) = some 6 ∧
      badProfileField (profile.bytes.set 2 2#8) = some 2 ∧ badProfileField (profile.bytes.set 10 31#8) = some 10 := by
  decide +kernel

/-! ### The link -/

/-- A link record with frames listed for replay. -/
def listing (l : Link) : Link := { l with replay := [sent 255#8, sent 0#8], nextUp := 1#8, timer := true }

/-- A part at rest whose channel is busy. -/
def busy (s : State) : State :=
  { s with link := { s.link with transmission := some { content := .credit, expected := 0#8, release := 0#8 } } }

/-- The part at rest with frames listed for replay. -/
def listed : State := { ready with link := listing ready.link }

/-- AcknowledgementRemovesFramesAndMakesProgress: the oldest and the newest frame named, the acknowledged point with and
without frames, and a number that is neither. -/
theorem witness_acknowledgement :
    (listing ready.link).replay = [] ++ sent 255#8 :: [sent 0#8] ∧
      (listing ready.link).replay = [sent 255#8] ++ sent 0#8 :: [] ∧ (∀ o ∈ [sent 255#8], o.sequence ≠ 0#8) ∧
      (∀ f ∈ (listing ready.link).replay, f.sequence ≠ 254#8) ∧ (254#8 : Byte) = (sent 255#8).sequence - 1#8 ∧
      (∀ f ∈ (listing ready.link).replay, f.sequence ≠ 1#8) ∧ ready.link.replay = [] ∧ ready.link.nextUp - 1#8 = 255#8 ∧
      bump 65535 = 65535 := by decide +kernel

/-- The part at rest with its intake holding `n` frames. -/
def holding (n : Nat) (s : State) : State := { s with link := { s.link with intake := List.replicate n [0x04#8] } }

/-- The part in an episode. -/
def inEpisode (s : State) : State := { s with link := { s.link with episode := true } }

/-- SequencedFrameIsJudgedByItsDistance: room for the eighth frame; a full intake, in an episode and not; d = 1, 127 and
128. -/
theorem witness_sequenced :
    atRest (holding 7 ready) ∧ (holding 7 ready).link.intake.length < 8 ∧ atRest (holding 8 (inEpisode ready)) ∧
      (inEpisode ready).link.episode = true ∧ 8 ≤ (holding 8 (inEpisode ready)).link.intake.length ∧
      atRest (holding 8 ready) ∧ (holding 8 ready).link.episode = false ∧
      ((1#8 : Byte).toNat + 256 - ready.link.expected.toNat) % 256 = 1 ∧
      ((127#8 : Byte).toNat + 256 - ready.link.expected.toNat) % 256 = 127 ∧
      ((128#8 : Byte).toNat + 256 - ready.link.expected.toNat) % 256 = 128 ∧ ([] : List Byte).length < 256 := by
  decide +kernel

/-- FailedFrameIsCountedAndReportedOnce: a lost link frame, a frame in an episode, a frame that begins one. -/
theorem witness_failed_frame :
    atRest ready ∧ receive [0x2F#8] = .failed true ∧ receive [0x10#8] = .failed false ∧ ready.link.episode = false ∧
      atRest (inEpisode ready) := by decide +kernel

/-- AckIsAnsweredWithCredit: an idle channel with no REJECT pending. -/
theorem witness_ack :
    atRest ready ∧ ready.link.transmission = none ∧ ready.link.pendingReject = none ∧ atRest (busy ready) := by
  decide +kernel

/-- ResendIsTakenOrIgnored: a listed frame, the next up sequence, any other. -/
theorem witness_resend :
    atRest listed ∧ (listed.link.acknowledge 254#8).replay = [sent 255#8] ++ sent 0#8 :: [] ∧
      (∀ o ∈ [sent 255#8], o.sequence ≠ 0#8) ∧ (∀ f ∈ (listed.link.acknowledge 254#8).replay, f.sequence ≠ 1#8) ∧
      1#8 = (listed.link.acknowledge 254#8).nextUp ∧
      (∀ f ∈ (listed.link.acknowledge 254#8).replay, f.sequence ≠ 2#8) ∧
      2#8 ≠ (listed.link.acknowledge 254#8).nextUp := by decide +kernel

/-- A part whose sender has a choice to make. -/
def choosing (f : Link → Link) : State := { ready with link := f ready.link }

/-- SenderChoosesByPriority: each clause in its order; the replay list at 15 and at 16 frames. -/
theorem witness_sender :
    (busy ready).link.transmission ≠ none ∧
      (choosing fun l => { l with pendingReject := some .full }).link.pendingReject = some .full ∧
      (choosing fun l => { l with pendingCredit := true }).link.pendingCredit = true ∧
      (choosing fun l => { l with mode := .stalled, stall := 4 }).link.mode = .stalled ∧
      (choosing fun l => { listing l with pointer := some 0#8 }).link.replay = [sent 255#8] ++ sent 0#8 :: [] ∧
      (choosing fun l => { l with outbound := [.rested], replay := (List.range 15).map (fun n => sent (oneByte n)) }
        ).link.replay.length < 16 ∧
      16 ≤ (choosing fun l => { l with outbound := [.rested], replay := (List.range 16).map (fun n => sent (oneByte n)) }
        ).link.replay.length ∧
      ready.link.pendingReject = none ∧ ready.link.pendingCredit = false ∧ ready.link.mode = .running ∧
      ready.link.pointer = none ∧ ready.link.outbound = [] ∧ ready.link.transmission = none ∧ ready.running = true := by
  decide +kernel

/-- A part at rest with the replay timer running at a stall count. -/
def stalling (n : Nat) : State := { ready with link := { listing ready.link with stall := n } }

/-- EndOfATransmissionAndExpiryOfTheReplayTimer: stall counts 2 and 3. -/
theorem witness_replay_expiry :
    atRest (stalling 2) ∧ (stalling 2).link.timer = true ∧ (stalling 2).link.stall < 3 ∧ atRest (stalling 3) ∧
      (stalling 3).link.stall = 3 := by decide +kernel

/-! ### Resets and supplies -/

/-- LinkResetReachesEveryBlock and FullResetGivesEveryBlockItsResetValues: a part with an entry in the array and one that
waits, at rest. -/
theorem witness_link_reset :
    atRest (working [entry (key 0 1#8) writeKind0 .active, entry (key 0 2#8) readKind0 .queued]
      (.access (.page 0) (key 0 1#8) .write (.host place))) := by decide +kernel

/-- A part with an idle lane whose queue a link reset empties, and one that a staged profile keeps from pulling a step in. -/
def relieved : State :=
  { working [entry (key 0 2#8) readKind0 .queued] (.held (.page 0)) with
    lanes := (ready.lanes.set 1 { Lane.reset with state := .held (.page 0), debt := 1 }).set 2 Lane.reset
    prf := { ready.prf with staged := some profile } }

/-- LinkResetReachesEveryBlock: after the reset lane 1, with a debt of 1, closes its page, and lane 2, at debt 0, begins a
step (R48, R55, R56). -/
theorem test_link_reset_decisions :
    atRest relieved ∧ (after (exec (.linkReset 0#8) relieved)).map (fun s => ((s.lane 1).state, (s.lane 2).state)) =
      some (.closing (.page 0), .restoring) := by decide +kernel

/-- InterruptedWritesSpoilTheirOwnLineOnly: no write in progress; a write in progress, with an address and a line outside
it. -/
theorem witness_interrupted_write :
    (∀ a : LaneId, (ready.lane a).state.writing = none) ∧
      ((inPhase (entry (key 0 1#8) writeKind0 .active) .write).lane 1).state.writing = some (.host place) ∧
      lineBase (.host place) + 64 ≤ lineBase (.host ⟨1, 0, 10⟩) := by decide +kernel

/-- ResetPinHoldsThePartAndReleasesIt and SuppliesLostAndRestored: the four positions of the pins. -/
theorem witness_pins :
    ready.settled ∧ ready.pins = { supplied := true, resetN := true } ∧ ready.pins.supplied = true ∧
      (∀ p ∈ [(⟨true, false⟩ : Pins), ⟨false, true⟩, ⟨false, false⟩], ({ ready with pins := p } : State).pins = p) ∧
      (∀ c ∈ [Instr.ack 0#8, .temperatureReadingCompletion 0, .restorationTimerExpiry, .supplyOutOfRange],
        c ∉ [.powerUp, .resetNFall, .resetNRise]) ∧
      State.reset.link = Link.afterReset LinkCounters.zero := by decide +kernel

/-! ### Requests -/

/-- The bytes of a request for slot 1 with tag 5. -/
def asked (kind : EntryKind) : List Byte := (kind.request (slotByte 0) 5#8).bytes

/-- IntTakesOneFrameAtATime: a message to take; a row that is not the head's; no message to take. -/
theorem witness_int :
    (taking (asked .fence) ready).intHead = some (asked .fence) ∧ rowOf (asked .fence) ≠ .read ∧
      (taking (asked .fence) ready).settled ∧ ready.intHead = none ∧ ready.settled := by decide +kernel

/-- The premises of DataRequestAccepted in a state. -/
abbrev accepts (kind : EntryKind) (s : State) : Prop :=
  s.settled ∧ s.intHead = some (asked kind) ∧ kind.acceptable = true ∧ s.stc.device = .ready ∧
    (s.slot 0).state = .opened ∧ s.entryCount 0 < (s.slot 0).window ∧ s.tagInUse 0 5#8 = false

/-- The part with one entry of slot 1 in its table. -/
def occupied (st : EntryState) : State := { ready with table := [entry (key 0 1#8) .fence st] }

/-- DataRequestAccepted: with a profile staged; a READ of the last address, a WRITE and a MERGE without. -/
theorem witness_accepted :
    accepts .fence (taking (asked .fence) (staging (State.setLaneState ready 0 .restoring))) ∧
      (staging ready).prf.staged.isSome = true ∧
      accepts (.read 4194303 15 .short) (taking (asked (.read 4194303 15 .short)) ready) ∧
      accepts writeKind0 (taking (asked writeKind0) ready) ∧ accepts mergeKind0 (taking (asked mergeKind0) ready) ∧
      ready.prf.staged = none ∧ ready.prf.active = some profile := by decide +kernel

/-- The same statement: a FENCE with nothing before it, behind an entry that has ended, and behind one that has not, the
slot one below its window. -/
theorem witness_accepted_fence :
    accepts .fence (taking (asked .fence) ready) ∧ accepts .fence (taking (asked .fence) (occupied .replyWait)) ∧
      accepts .fence (taking (asked .fence) (occupied .fenceWait)) ∧
      (occupied .fenceWait).entryCount 0 + 1 = 2 ∧ (∀ o ∈ (occupied .replyWait).table, o.state = .replyWait) := by
  decide +kernel

/-- A request to take in a state at rest. -/
abbrev takes (r : Request) (s : State) : Prop := (taking r.bytes s).settled ∧ (taking r.bytes s).intHead = some r.bytes

/-- A READ request of slot 1 with tag 1. -/
def readRequest0 (slot : Byte) (address : Nat) (start : Byte) : Request := .read slot 1#8 address start 0#8

/-- DataRequestRefusedByTheFirstCheckThatFails, checks 1 to 3: each device state, slot numbers 0 and 5, a FREE and a
DETACHED slot, a CLOSING one, a slot at its window. -/
theorem witness_refused_data_request :
    (∀ d ∈ [Device.initializing, .unconfigured, .resting, .retained, .waking],
        takes (readRequest0 1#8 0 0#8) (State.setLaneState (inDevice d ready) 0 .restoring)) ∧
      (readRequest0 5#8 0 0#8).wellFormed = true ∧
      (readRequest0 5#8 0 0#8).dataFields = some (5#8, 1#8, some 0, false) ∧ takes (readRequest0 0#8 0 0#8) ready ∧
      takes (readRequest0 5#8 0 0#8) ready ∧ takes (readRequest0 3#8 0 0#8) ready ∧ (ready.slot 2).state = .free ∧
      takes (readRequest0 1#8 0 0#8) (ready.setSlot 0 ⟨.detached, 1, .free, 0⟩) ∧
      takes (readRequest0 1#8 0 0#8) (ready.setSlot 0 ⟨.closing, 1, .free, 0⟩) ∧
      takes (readRequest0 1#8 0 0#8) ((occupied .fenceWait).setSlot 0 ⟨.opened, 1, .free, 0⟩) ∧
      (occupied .fenceWait).entryCount 0 = 1 := by decide +kernel

/-- The same statement, checks 4 to 6: a tag in use, the first address out of range, a start word of 16 and an empty mask. -/
theorem witness_refused_fields :
    takes (readRequest0 1#8 0 0#8) (occupied .fenceWait) ∧ (occupied .fenceWait).tagInUse 0 1#8 = true ∧
      (occupied .fenceWait).entryCount 0 < ((occupied .fenceWait).slot 0).window ∧
      takes (readRequest0 1#8 4194304 0#8) ready ∧ ready.tagInUse 0 1#8 = false ∧ ready.entryCount 0 = 0 ∧
      takes (readRequest0 1#8 4194303 16#8) ready ∧
      (readRequest0 1#8 4194303 16#8).dataFields = some (1#8, 1#8, some 4194303, true) ∧
      (Request.merge 1#8 1#8 0 (List.replicate 8 0#8) line0).dataFields = some (1#8, 1#8, some 0, true) := by
  decide +kernel

/-- OpenGrantsTheLowestFreeSlot: granted at windows 1 and 16; each refusal. -/
theorem witness_open :
    takes (.openSession 1#8 0#8) ready ∧ takes (.openSession 16#8 1#8) (inDevice .unconfigured ready) ∧ ready.pool = 45 ∧
      (ready.slot 2).state = .free ∧ (∀ j : SlotId, j < 2 → (ready.slot j).state ≠ .free) ∧
      takes (.openSession 0#8 0#8) ready ∧ takes (.openSession 17#8 0#8) ready ∧ takes (.openSession 1#8 2#8) ready ∧
      takes (.openSession 1#8 0#8) (inDevice .initializing ready) ∧
      takes (.openSession 1#8 0#8) (inDevice .waking ready) ∧
      takes (.openSession 1#8 0#8) { ready with slots := Four.replicate ⟨.detached, 1, .free, 0⟩ } ∧
      (∀ k : SlotId, (({ ready with slots := Four.replicate ⟨.detached, 1, .free, 0⟩ } : State).slot k).state ≠ .free) ∧
      takes (.openSession 1#8 0#8) (ready.setSlot 0 ⟨.opened, 47, .free, 0⟩) ∧
      (ready.setSlot 0 ⟨.opened, 47, .free, 0⟩).pool = 0 := by decide +kernel

/-- CloseDrainsTheSlotOrIsRefused: slots without and with entries; each refusal, slot numbers 0 and 5. -/
theorem witness_close :
    takes (.close (slotByte 0) false) ready ∧ ready.entryCount 0 = 0 ∧ (ready.slot 0).state = .opened ∧
      ready.stc.device ≠ .initializing ∧ takes (.close (slotByte 0) false) (occupied .fenceWait) ∧
      (occupied .fenceWait).entryCount 0 ≠ 0 ∧ takes (.close 1#8 true) (inDevice .initializing ready) ∧
      takes (.close 0#8 true) ready ∧ takes (.close 5#8 false) ready ∧ takes (.close (slotByte 2) true) ready ∧
      takes (.close (slotByte 0) true) (ready.setSlot 0 ⟨.closing, 1, .free, 0⟩) := by decide +kernel

/-- The part with entries of slot 1 in each of three states. -/
def mixed : State :=
  working [entry (key 0 1#8) writeKind0 .active, entry (key 0 2#8) readKind0 .queued,
    entry (key 0 3#8) .fence .fenceWait] (.access (.page 0) (key 0 1#8) .write (.host place))

/-- The part with a READ of slot 1 that waits in a lane at work, and a FENCE behind it. -/
def discarding : State :=
  working [entry (key 0 1#8) readKind0 .queued, entry (key 0 2#8) .fence .fenceWait] .restoring

/-- CloseWithDiscardFreesTheWorkNotBegun: a FENCE behind an ACTIVE entry, and one that waits on a discarded entry only. -/
theorem witness_close_with_discard :
    takes (.close (slotByte 0) true) mixed ∧ takes (.close (slotByte 0) true) discarding ∧
      (discarding.table.map (·.key)).Nodup ∧ (mixed.table.map (·.key)).Nodup ∧ mixed.stc.device ≠ .initializing ∧
      (mixed.slot 0).state = .opened ∧ (mixed.lane 1).state.idle = false := by decide +kernel

/-- The part with a READ of slot 1 in an idle lane's queue, and one of slot 2 to the same line behind it. -/
def unblocking : State :=
  working [entry (key 0 1#8) readKind0 .queued, entry (key 1 2#8) readKind0 .queued] (.held (.page 0))

/-- CloseWithDiscardFreesTheWorkNotBegun: the lane is told that the READ of slot 2 is no longer blocked, and serves it (R25,
R27, R48). -/
theorem test_close_with_discard_unblocks :
    takes (.close (slotByte 0) true) unblocking ∧
      (after (exec .closeWithDiscard (taking (Request.close (slotByte 0) true).bytes unblocking))).map
        (fun t => (t.table.map (fun e => (e.key, e.state)), (t.lane 1).state)) =
      some ([(key 1 2#8, .active)], .access (.page 0) (key 1 2#8) .read (.host place)) := by decide +kernel

/-- The FENCE behind the discarded READ completes, and the one behind the WRITE in progress does not (R26, R38). -/
theorem test_close_with_discard :
    [discarding, mixed].map (fun s =>
      (after (exec .closeWithDiscard (taking (Request.close (slotByte 0) true).bytes s))).map
        (fun t => (t.table.map (fun e => (e.key, e.state)), t.waiting, (t.slot 0).discarded))) =
      [some ([(key 0 2#8, .replyWait)], [], 1),
        some ([(key 0 1#8, .active), (key 0 3#8, .fenceWait)], [], 1)] := by decide +kernel

/-- SetProfileStagedOrTakenInUnconfigured: staged; taken in UNCONFIGURED with a lane at work; each refusal. -/
theorem witness_set_profile :
    profile.wellFormed = true ∧ takes (.setProfile profile.bytes) ready ∧ ready.prf.staged = none ∧
      takes (.setProfile profile.bytes) (inDevice .unconfigured ready) ∧
      (Request.setProfile (profile.bytes.set 6 7#8)).wellFormed = true ∧
      takes (.setProfile profile.bytes) (inDevice .initializing ready) ∧
      takes (.setProfile profile.bytes) (inDevice .retained ready) ∧
      takes (.setProfile profile.bytes) (staging (State.setLaneState ready 0 .restoring)) ∧
      takes (.setProfile (profile.bytes.set 6 7#8)) ready ∧ badProfileField (profile.bytes.set 6 7#8) = some 6 := by
  decide +kernel

/-- The part RESTING, with a lane at work and the rest reply owed. -/
def resting : State :=
  { State.setLaneState ready 0 .restoring with
    stc := { device := .resting, initializing := false, waking := false, restOwed := true, wakeOwed := false } }

/-- RestBeginsTheDrainAndWakeEndsTheRest: each clause. -/
theorem witness_rest_and_wake :
    takes .rest ready ∧ takes .rest (staging (State.setLaneState ready 0 .restoring)) ∧
      (∀ d ∈ [Device.initializing, .unconfigured, .retained, .waking],
        takes .rest (inDevice d ready) ∧ takes .wake (inDevice d ready)) ∧
      takes .rest resting ∧ takes .wake resting ∧ takes .wake ready := by decide +kernel

/-- The part with suspects listed. -/
def suspecting (locations : List Location) (s : State) : State :=
  { s with itg := { s.itg with suspects := locations.map (fun l => ⟨l, none⟩) } }

/-- StatusAnswersAndCountersCleared, ProfileAndTablesAnswered: each request, in INITIALIZING and elsewhere, lanes 7 and 8,
table code 2. -/
theorem witness_status_and_tables :
    takes (.getStatus false) ready ∧ takes (.getStatus true) ready ∧
      (∀ r ∈ [Request.getProfile, .getTable 0#8 0#8, .getTable 1#8 7#8, .getTable 1#8 8#8, .getTable 2#8 0#8,
          .getTable 255#8 9#8],
        takes r ready ∧ takes r (inDevice .initializing ready)) := by decide +kernel

/-- A part whose outbound queue is full, with class 1 replies that wait. -/
def crowded (waiting : List Waiting) : State :=
  { ready with
    link := { ready.link with outbound := List.replicate 24 .rested, mode := .stalled, stall := 4 }
    waiting := waiting }

/-- ProfileAndTablesAnswered: GET PROFILE with two PROFILE APPLIED last in the class 1 list, and with another reply last. -/
theorem witness_get_profile :
    takes .getProfile (crowded [.stc .awake, .profileApplied 1, .profileApplied 2]) ∧
      (crowded [.stc .awake, .profileApplied 1, .profileApplied 2]).waiting =
        [.stc .awake] ++ [.profileApplied 1, .profileApplied 2] ∧
      (crowded [.stc .awake, .profileApplied 1, .profileApplied 2]).appliedLast = 2 ∧
      takes .getProfile (crowded [.profileApplied 1, .stc .awake]) ∧ ready.stc.device ≠ .initializing := by decide +kernel

/-- Behind a reply of STC's, PROFILE STATE passes nothing (R159, R173). -/
theorem test_get_profile :
    (after (exec .getProfile (taking Request.getProfile.bytes (crowded [.profileApplied 1, .stc .awake])))).map
        (·.waiting) =
      some [.profileApplied 1, .stc .awake, .int (.profileState (some profile) none)] := by decide +kernel

/-- ForgetRemovesOneSuspect and ForgetAllEmptiesTheSuspectList: a listed location, one that is not, each bad field at its
first value, INITIALIZING. -/
theorem witness_forget :
    takes (.forget 1#8 0 9#8) (suspecting [place] ready) ∧ takes (.forget 7#8 16383 31#8) (suspecting [place] ready) ∧
      (∃ r ∈ (suspecting [place] ready).itg.suspects, r.location = place) ∧
      (∀ r ∈ (suspecting [place] ready).itg.suspects, r.location ≠ ⟨7, 16383, 31⟩) ∧
      takes (.forget 8#8 0 0#8) ready ∧ takes (.forget 0#8 16384 0#8) ready ∧ takes (.forget 0#8 0 32#8) ready ∧
      takes (.forget 0#8 0 0#8) (inDevice .initializing ready) ∧ takes .forgetAll (inDevice .initializing ready) ∧
      takes .forgetAll (suspecting [place] ready) ∧ takes .forgetAll ready ∧ ready.withinCapacity ∧
      (after (exec .forgetAll (taking Request.forgetAll.bytes (suspecting [place] ready)))).isSome = true := by
  decide +kernel

/-! ### The array, the lanes and the entries -/

/-- LinesWrittenReadBackAndLeaveTheOthers: an array with defined content in canonical form, and two lines. -/
theorem witness_lines :
    ready.array.undefinedDraw = none ∧ Sparse.wf 0#8 ready.array.cells = true ∧
      Sparse.wf Damage.intact ready.array.damage = true ∧ line0.length = 64 ∧
      ArrayLine.spare 7 7 ≠ .host ⟨7, 16383, 31⟩ := by decide +kernel

/-- EligibleEntriesAreTheUnblockedQueuedOnes: an entry behind an ended one to its line, and one behind an open FENCE. -/
theorem witness_eligible :
    (({ ready with table := [entry (key 0 1#8) writeKind0 .replyWait, entry (key 0 2#8) readKind0 .queued] } : State
      ).eligible 1).map (·.key) = [key 0 2#8] ∧
      ({ ready with table := [entry (key 0 1#8) .fence .fenceWait, entry (key 0 2#8) readKind0 .queued] } : State
        ).eligible 1 = [] := by decide +kernel

/-- An entry of slot 1 QUEUED in lane 1 at a page, passed over `passes` times. -/
def queued (tag : Byte) (page : Fin 16384) (passes : Nat) : Entry :=
  { Entry.new (key 0 tag) (.read (256 * page.val + 32) 0 .full) with
    state := .queued, location := some ⟨1, page, 0⟩, passes := passes }

/-- A part with the entries given in lane 1's queue, the lane in HELD(0) or CLOSED. -/
def deciding (st : LaneState) (debt : Int) (forced : Bool) (es : List Entry) : State :=
  { ready with
    lanes := ready.lanes.set 1 { Lane.reset with state := st, debt := debt, forced := forced }
    table := es }

/-- SchedulerDecidesByTheFirstTestThatHolds, in HELD: forced; a target of p; the age cap of 2; a younger entry that
targets p; none; an empty E. -/
theorem witness_decides_in_held :
    ((deciding (.held (.page 0)) 4 true []).lane 1).forced = true ∧
      ((deciding (.held (.page 0)) 0 false [queued 1#8 0 0]).eligible 1).map (·.key) = [key 0 1#8] ∧
      (deciding (.held (.page 0)) 0 false []).targetOf (queued 1#8 0 0) = some (.page 0) ∧
      (deciding (.held (.page 0)) 0 false []).atAgeCap 2 = true ∧
      (deciding (.held (.page 0)) 0 false []).atAgeCap 1 = false ∧
      (deciding (.held (.page 0)) 0 false [queued 1#8 1 1, queued 2#8 2 0, queued 3#8 0 0]).eligible 1 =
        queued 1#8 1 1 :: ([queued 2#8 2 0] ++ queued 3#8 0 0 :: []) ∧
      (∀ e ∈ [queued 1#8 1 1, queued 2#8 2 0],
        (deciding (.held (.page 0)) 0 false []).targetOf e ≠ some (.page 0)) ∧
      (deciding (.held (.page 0)) 1 false []).eligible 1 = [] ∧ ready.releasePolicy = false := by decide +kernel

/-- What those states decide, and the pass that the entry passed over gains (R51 to R53). -/
theorem test_decisions_in_held :
    [(deciding (.held (.page 0)) 4 true []), (deciding (.held (.page 0)) 0 false [queued 1#8 0 0]),
        (deciding (.held (.page 0)) 0 false [queued 1#8 1 2, queued 3#8 0 0]),
        (deciding (.held (.page 0)) 0 false [queued 1#8 1 1, queued 3#8 0 0]), (deciding (.held (.page 0)) 1 false []),
        (deciding (.held (.page 0)) 0 false [])].map (fun s => s.decision 1) =
      [.close, .serve (key 0 1#8) [], .close, .serve (key 0 3#8) [key 0 1#8], .close, .stay] := by decide +kernel

/-- SchedulerDecidesByTheFirstTestThatHolds, in CLOSED and not idle: debts 1, 0, -1 and -2; pull-in allowed and not. -/
theorem witness_decides_in_closed :
    [(deciding .closed 4 true []), (deciding .closed 0 false [queued 1#8 5 0]), (deciding .closed 1 false []),
        (deciding .closed 0 false []), (deciding .closed (-1) false []), (deciding .closed (-2) false []),
        staging (deciding .closed 0 false []), inDevice .resting (deciding .closed (-1) false []),
        deciding .restoring 3 true []].map (fun s => s.decision 1) =
      [.restore, .openPage (.page 5), .restore, .restore, .restore, .stay, .stay, .stay, .stay] ∧
      (deciding .restoring 3 true []).lane 1 = { Lane.reset with state := .restoring, debt := 3, forced := true } := by
  decide +kernel

/-- OpenAndCloseCompletionsDecideAgain: an open and a close in progress, and neither. -/
theorem witness_open_and_close :
    atRest (deciding (.opening (.page 0)) 0 false []) ∧ atRest (deciding (.closing .spareRow) 0 false []) ∧
      ((deciding (.opening (.page 0)) 0 false []).lane 1).state = .opening (.page 0) ∧
      ((deciding (.closing .spareRow) 0 false []).lane 1).state = .closing .spareRow ∧ atRest ready ∧
      (deciding .closed 0 false [queued 1#8 5 0]).decision 1 = .openPage (.page 5) ∧
      (deciding (.held (.page 0)) 0 false [queued 1#8 0 0]).decision 1 = .serve (key 0 1#8) [] := by decide +kernel

/-- A part that selects a WRITE at `place` in an open page, with spares and remap records of lane 1. -/
def selecting (p : PageName) (suspects : List Location) (spares : Eight SpareState) (remaps : List Remap) : State :=
  suspecting suspects { ready with
    lanes := ready.lanes.set 1 { Lane.reset with state := .held p, spares := spares, remaps := remaps }
    table := [queued 1#8 3 15, entry (key 0 2#8) writeKind0 .queued] }

/-- ServingAnEntryAndRemappingAtItsSelection: an entry served in its numbered page; a suspect WRITE remapped in the spare
row, with no record and with one; one for which no spare is FREE, and one that its record sends there. -/
theorem witness_serving :
    let e := entry (key 0 2#8) writeKind0 .queued;
    let one := (Eight.replicate SpareState.inUse).set 7 .free;
    let plain := selecting (.page 0) [] (Eight.replicate .free) [];
    let fresh := selecting .spareRow [place] (Eight.replicate .free) [];
    let again := selecting .spareRow [place] one [⟨0, 9, 2⟩];
    let full := selecting (.page 0) [place] (Eight.replicate .retired) [];
    let kept := selecting .spareRow [place] (Eight.replicate .inUse) [⟨0, 9, 2⟩];
    (∀ s ∈ [plain, fresh, again, full, kept], s.table.filter (fun x => x.key == e.key) = [e]) ∧
      e.location = some place ∧ e.key ∉ [key 0 1#8] ∧ (entry (key 0 3#8) .fence .queued).location = none ∧
      plain.targetOf e = some (.page 0) ∧ full.targetOf e = some (.page 0) ∧
      (∀ s ∈ [fresh, again, kept], s.targetOf e = some .spareRow) ∧
      (fresh.lane 1).lowestFree = some 0 ∧ (again.lane 1).lowestFree = some 7 ∧ (full.lane 1).lowestFree = none ∧
      (fresh.lane 1).remapOf place = none ∧ (again.lane 1).remapOf place = some 2 ∧
      fresh.suspect place = true ∧ plain.suspect place = false ∧ fresh.remappingOn = true := by decide +kernel

/-- The target of a READ and of a WRITE at a suspect location with a FREE spare, and of a READ that a record redirects;
of the WRITE with remapping OFF (R46, R131). -/
theorem test_targets :
    let s := selecting (.page 0) [place] (Eight.replicate .free) [];
    let off := { s with prf := { s.prf with active := some { profile with remapping := false } } };
    let recorded := selecting (.page 0) [] (Eight.replicate .retired) [⟨0, 9, 2⟩];
    let read := entry (key 0 2#8) readKind0 .queued;
    let write := entry (key 0 2#8) writeKind0 .queued;
    (s.targetOf read, s.targetOf write, off.targetOf write, recorded.targetOf read) =
      (some (.page 0), some .spareRow, some (.page 0), some .spareRow) := by decide +kernel

/-- The record changes in place, spare 2 is RETIRED and 7 IN_USE, which the WRITE reaches; with no FREE spare the flag is
set and the notice posted. The pass count of the entry passed over stays at 15 (R57, R90, R91). -/
theorem test_serving :
    (let t := serve 1 .spareRow (key 0 2#8) [key 0 1#8]
        (selecting .spareRow [place] ((Eight.replicate .inUse).set 7 .free) [⟨0, 9, 2⟩]);
      ((t.lane 1).remaps, (t.lane 1).spares.get 2, (t.lane 1).spares.get 7, t.itg.suspects, t.table.map (·.passes),
        (t.lane 1).state)) =
      ([⟨0, 9, 7⟩], .retired, .inUse, [], [15, 0], .access .spareRow (key 0 2#8) .write (.spare 1 7)) ∧
    (let t := serve 1 (.page 0) (key 0 2#8) [] (selecting (.page 0) [place] (Eight.replicate .retired) []);
      ((t.lane 1).exhausted, t.snu.queue, (t.lane 1).state)) =
      (true, [.sparesExhausted 1], .access (.page 0) (key 0 2#8) .write (.host place)) := by decide +kernel

/-- An ACTIVE entry of slot 1. -/
def activeEntry (kind : EntryKind) : Entry := entry (key 0 1#8) kind .active

/-- ReadPhaseFillsTheBufferAndGoesOnOrEnds: a READ phase at each damage level. -/
theorem witness_read_phase :
    (∀ level ∈ [Damage.intact, .correctable, .uncorrectable], ∀ kind ∈ [readKind0, mergeKind0],
        atRest (damaged level (inPhase (activeEntry kind) .read)) ∧
          (damaged level (inPhase (activeEntry kind) .read)).array.level (.host place) = level) ∧
      (inPhase (activeEntry readKind0) .read).entry (key 0 1#8) = some (activeEntry readKind0) ∧
      (activeEntry readKind0).location = some place ∧ place.lane = 1 := by decide +kernel

/-- What a corrected READ does with write-back ON, and a LOST MERGE (R12, R80, R83). -/
theorem test_read_phase :
    (after (exec (.readPhaseCompletion 1) (damaged .correctable (inPhase (activeEntry readKind0) .read)))).map
        (fun s => ((s.lane 1).state, (s.lane 1).corrected)) =
      some (.access (.page 0) (key 0 1#8) .writeBack (.host place), 1) ∧
    (after (exec (.readPhaseCompletion 1) (damaged .uncorrectable (inPhase (activeEntry mergeKind0) .read)))).map
        (fun s => (s.table.map (·.outcome), (s.lane 1).lost, s.itg.suspects, s.snu.queue)) =
      some ([some .lost], 1, [⟨place, none⟩], [.suspectAdded place]) := by decide +kernel

/-- WritePhasesStoreTheLineAndEndTheWork: a WRITE, a MERGE and a WRITE_BACK phase. -/
theorem witness_write_phase :
    atRest (inPhase (activeEntry writeKind0) .write) ∧
      atRest (inPhase { activeEntry mergeKind0 with buffer := some line0 } .write) ∧
      atRest (inPhase { activeEntry readKind0 with buffer := some line0 } .writeBack) ∧
      (inPhase (activeEntry writeKind0) .write).entry (key 0 1#8) = some (activeEntry writeKind0) ∧
      mergeKind0 = .merge 41 (List.replicate 8 0x81#8) line0 ∧ writeKind0 = .write 41 line0 := by decide +kernel

/-- A MERGE with enables 0 and 7 of each eight keeps the bytes between them (R13). -/
theorem test_merge :
    (after (exec (.writePhaseCompletion 1)
        (inPhase { activeEntry mergeKind0 with buffer := some (List.replicate 64 0x22#8) } .write))).map
        (fun s => (s.array.line (.host place)).take 9) =
      some [0x11#8, 0x22#8, 0x22#8, 0x22#8, 0x22#8, 0x22#8, 0x22#8, 0x11#8, 0x11#8] := by decide +kernel

/-- A part at the end of the WRITE of tag 1, with a FENCE behind it and one behind that FENCE, then a READ that waits and a
FENCE behind it; a FENCE of another slot. -/
def fenced : State :=
  working [activeEntry writeKind0, entry (key 0 2#8) .fence .fenceWait, entry (key 0 3#8) .fence .fenceWait,
    entry (key 1 7#8) .fence .fenceWait, entry (key 0 4#8) readKind0 .queued, entry (key 0 5#8) .fence .fenceWait]
    (.access (.page 0) (key 0 1#8) .write (.host place))

/-- An orphan alone in its slot, in a slot state. -/
def orphaned (st : SlotState) : State :=
  State.setSlot (inPhase { activeEntry writeKind0 with orphan := true } .write) 0 ⟨st, 2, .free, 0⟩

/-- EndOfArrayWorkReleasesTheReply: FENCEs that complete and one that does not; an orphan, its slot DETACHED, CLOSING, and
not emptied; a lane with an operation in progress. -/
theorem witness_end_of_work :
    let e := activeEntry writeKind0;
    let orphan := { e with orphan := true };
    (fenced.table.map (·.key)).Nodup ∧ e ∈ fenced.table ∧ e.state = .active ∧ e.orphan = false ∧
      (∀ st ∈ [SlotState.detached, .closing],
        ((orphaned st).table.map (·.key)).Nodup ∧ orphan ∈ (orphaned st).table ∧ (orphaned st).entryCount 0 = 1 ∧
          ((orphaned st).slot 0).state = st) ∧
      ({ orphaned .detached with table := [orphan, { entry (key 0 2#8) readKind0 .active with orphan := true }] } : State
        ).entryCount 0 = 2 ∧
      ((fenced.setLaneState 2 .restoring).lane 2).state.idle = false := by decide +kernel

/-- The two FENCEs complete in order, the one behind the READ and the other slot's do not; the lane serves the READ, which
the WRITE has unblocked, in the page it holds (R26, R27, R58). -/
theorem test_end_of_work :
    (let t := endWork 1 (.page 0) (activeEntry writeKind0) fenced;
      (t.table.map (·.state), t.replies, (t.lane 1).state)) =
      ([.replyWait, .replyWait, .replyWait, .fenceWait, .active, .fenceWait], [key 0 1#8, key 0 2#8, key 0 3#8],
        .access (.page 0) (key 0 4#8) .read (.host place)) ∧
    (let t := endWork 1 (.page 0) { activeEntry writeKind0 with orphan := true } (orphaned .closing);
      (t.table, t.waiting)) = ([], [.closed 0 0]) ∧
    (endWork 1 (.page 0) { activeEntry writeKind0 with orphan := true } (orphaned .detached)).slot 0 = Slot.unused := by
  decide +kernel

/-- A list of `n` suspects or notices. -/
def suspectList (n : Nat) : List Location := (List.range n).map (fun i => ⟨0, Fin.ofNat 16384 i, 1⟩)

def notices (n : Nat) (lost : Nat) : State :=
  { ready with snu := { queue := List.replicate n (.tempBand .hot), lost := lost } }

/-- SuspectListTakesALostLocation: listed; not listed with 15 and with 16 records; a masked notice; a queue of 7 and of 8
notices, the lost count at 255. -/
theorem witness_suspects :
    (∃ r ∈ (suspecting [place] ready).itg.suspects, r.location = place) ∧
      (∀ r ∈ (suspecting (suspectList 16) ready).itg.suspects, r.location ≠ place) ∧
      (suspecting (suspectList 15) ready).itg.suspects.length < 16 ∧
      16 ≤ (suspecting (suspectList 16) ready).itg.suspects.length ∧
      (∀ r ∈ (suspecting (suspectList 15) ready).itg.suspects, r.location ≠ place) ∧
      { profile.mask with tempBand := false }.enables (.tempBand .hot) = false ∧
      ready.noticeEnabled (.tempBand .hot) = true ∧ (notices 7 0).snu.queue.length < 8 ∧
      8 ≤ (notices 8 255).snu.queue.length ∧ (notices 8 255).snu.lost ≤ 255 := by decide +kernel

/-! ### Restoration, temperature, profiles, device states, grants -/

/-- RestorationStepPaysTheDebt: a step in progress at debt 2 and at pointers 0 and 16,382; a lane that is not RESTORING. -/
theorem witness_restoration_step :
    atRest (forcedLane 2 0) ∧ atRest (forcedLane 7 16382) ∧ ((forcedLane 2 0).lane 5).state = .restoring ∧
      (ready.lane 5).state ≠ .restoring ∧ Sparse.wf 0 ready.array.restoredAt = true := by decide +kernel

/-- The pointer wraps from 16,382 to 0, and the spare row is restored at pointer 0 only (R16, R70). -/
theorem test_pointer_wraps :
    (after (exec (.restorationStepCompletion 5) (forcedLane 7 16382))).map (fun s => (s.lane 5).pointer) = some 0 ∧
      ({ Storage.initialized with elapsed := 9 }.step 5 0).restoredTime 5 .spareRow = 9 ∧
      ({ Storage.initialized with elapsed := 9 }.step 5 2).restoredTime 5 .spareRow = 0 := by decide +kernel

/-- A part with debts 6 and 7 in lanes 0 and 1, the timer running. -/
def indebted : State :=
  (ready.setLane 0 { Lane.reset with state := .held (.page 0), debt := 6 }).setLane 1
    { Lane.reset with state := .restoring, debt := 7, forced := true }

/-- TimerExpiryRaisesTheDebts: debts 6 and 7; a stopped timer; COOL under AUTO, and HOT. -/
theorem witness_timer_expiry :
    atRest indebted ∧ indebted.rst.timer = some .single ∧ (indebted.lane 0).debt = 6 ∧ (indebted.lane 1).debt = 7 ∧
      atRest { ready with rst := { ready.rst with timer := none } } ∧ ready.rst.band = .cool ∧ profile.hot = .auto ∧
      atRest { ready with rst := { ready.rst with band := .hot } } := by decide +kernel

/-- What that expiry does: 6 becomes 7 with the flag set and the lane closes its page, 7 is an overrun; the model's
clock gains 6.4 µs (R62, R63, R64, R67). -/
theorem test_timer_expiry :
    (after (exec .restorationTimerExpiry indebted)).map
        (fun s => ((s.lane 0).debt, (s.lane 0).state, (s.lane 1).debt, (s.lane 1).overruns, s.snu.queue)) =
      some (7, .closing (.page 0), 7, 1, [.restorationOverrun 1]) ∧
    (after (exec .restorationTimerExpiry indebted)).map (·.array.elapsed) = some 64 := by decide +kernel

/-- A part in a band. -/
def inBand (b : Band) : State := { ready with rst := { ready.rst with band := b } }

/-- The part with its supplies out of range. -/
def unsupplied (s : State) : State := { s with pins := { s.pins with supplied := false } }

/-- TemperatureBandFollowsTheReading: a reading interval runs, in both bands; for each clause on another command, the
command answers a next state. -/
theorem witness_temperature :
    atRest (inBand .cool) ∧ atRest (inBand .hot) ∧ ready.rst.interval.isSome = true ∧ ready.pins.supplied = true ∧
      (unsupplied (inBand .hot)).pins.supplied = false ∧
      [(inBand .hot, Instr.restorationTimerExpiry), (inBand .hot, .linkReset 0#8), (inBand .hot, .fullReset 0#8),
          (inBand .hot, .resetNFall), (inBand .hot, .supplyOutOfRange), (unsupplied (inBand .hot), .powerUp)].map
        (fun x => (after (exec x.2 x.1)).map (·.rst.band)) =
      [some .hot, some .hot, some .cool, some .cool, some .cool, some .cool] := by decide +kernel

/-- Readings at the two thresholds and one step inside them (R73). -/
theorem test_bands :
    [(Band.cool, (87 : Int)), (.cool, 88), (.hot, 83), (.hot, 82)].map
        (fun x => (after (exec (.temperatureReadingCompletion x.2) (inBand x.1))).map (·.rst.band)) =
      [some .cool, some .hot, some .hot, some .cool] := by decide +kernel

/-- A part in INITIALIZING, and one in WAKING, with the operation in progress. -/
def initializing : State := { inDevice .initializing ready with stc := State.reset.stc }

def waking : State :=
  { ready with stc :=
    { device := .waking, initializing := false, waking := true, restOwed := false, wakeOwed := true } }

/-- InitializationAndWakeComplete: each operation in progress and not. -/
theorem witness_initialization_and_wake :
    atRest initializing ∧ initializing.stc.initializing = true ∧ initializing.table = [] ∧
      (∀ a : LaneId, (initializing.lane a).state = .closed) ∧ atRest waking ∧ waking.stc.waking = true ∧ atRest ready ∧
      ready.stc.initializing = false ∧ ready.stc.waking = false := by decide +kernel

/-- A profile staged behind held requests: a READ, a FENCE behind it, a FENCE behind nothing that is held. -/
def applying : State :=
  { staging ready with
    prf := { active := some profile, staged := some { profile with label := 8, map := .pageMajor }, processing := none }
    table := [{ Entry.new (key 0 1#8) readKind0 with state := .profileHeld },
      { Entry.new (key 0 2#8) .fence with state := .profileHeld },
      { Entry.new (key 1 3#8) .fence with state := .profileHeld }] }

/-- ProfileApplicationReleasesTheHeldEntries: in READY with each kind of held entry, and in UNCONFIGURED. -/
theorem witness_application :
    kick applying = applying ∧ applying.running = true ∧ applying.toApply.isSome = true ∧
      (∀ a : LaneId, (applying.lane a).state = .closed) ∧
      (∀ e ∈ applying.table, e.state = .profileHeld ∨ e.state = .replyWait) ∧
      ({ inDevice .unconfigured ready with
        prf := { active := none, staged := none, processing := some profile } } : State).toApply = some profile := by
  decide +kernel

/-- What that application does: under PAGE_MAJOR address 41 names lane 0, page 1, line 9 (R3, R35, R137, R140). -/
theorem test_application :
    (after (exec .profileApplication applying)).map
        (fun s => (s.table.map (fun e => (e.state, e.location)), s.replies, s.waiting, (s.lane 0).state)) =
      some ([(.queued, some ⟨0, 1, 9⟩), (.fenceWait, none), (.replyWait, none)], [key 1 3#8], [.profileApplied 8],
        .opening (.page 1)) := by decide +kernel

/-- A part whose drain is complete. -/
def drainedPart : State := inDevice .resting ready

/-- DrainCompleteEntersRetained: RESTED owed or not, a lane with a debt of 1. -/
theorem witness_drain :
    drainedPart.running = true ∧ drainedPart.drained = true ∧ drainedPart.stc.device = .resting ∧
      drainedPart.table = [] ∧
      (State.setLane { drainedPart with stc := { drainedPart.stc with restOwed := true } } 0
        { Lane.reset with debt := 1 }).drained = true := by decide +kernel

/-- A part with an ended entry of slot 1, its slot in a state. -/
def granted (slot : Slot) : State :=
  { ready with
    link := { ready.link with outbound := List.replicate 23 .rested, mode := .stalled, stall := 4 }
    slots := ready.slots.set 0 slot
    table := [finished readKind0 .ok]
    replies := [key 0 9#8] }

/-- ArbiterGrantsByClass: each class 1 reply; the candidate for an OPEN, a CLOSING and a DETACHED slot; a notice with and
without lost ones; the last free outbound place. -/
theorem witness_grants :
    (∀ w ∈ [Waiting.int .rested, .closed 0 0, .profileApplied 1, .stc .rested],
        ({ ready with waiting := [w] } : State).granting) ∧
      (∀ st ∈ [SlotState.opened, .closing, .detached],
        (granted ⟨st, 2, .ordered, 0⟩).granting ∧
          (granted ⟨st, 2, .ordered, 0⟩).candidate = some (finished readKind0 .ok)) ∧
      (granted ⟨.opened, 2, .ordered, 0⟩).waiting = [] ∧ (granted ⟨.opened, 2, .ordered, 0⟩).link.outbound.length = 23 ∧
      (granted ⟨.opened, 2, .ordered, 0⟩).replies = [] ++ key 0 9#8 :: [] ∧
      (notices 1 0).granting ∧ (notices 1 3).granting ∧ (notices 1 3).candidate = none := by decide +kernel

/-- An ORDERED slot's reply waits for the slot's oldest entry, a FREE slot's does not (R31, R32). -/
theorem test_reply_order :
    [ReplyOrder.ordered, .free].map (fun o =>
      ({ granted ⟨.opened, 2, o, 0⟩ with
        table := [entry (key 0 8#8) readKind0 .active, finished readKind0 .ok] } : State).candidate.isSome) =
      [false, true] := by decide +kernel

/-- A part whose page of `place` was last restored at 0, at a time of the model's clock. -/
def aged (elapsed : Nat) : State := { ready with array := { Storage.initialized with elapsed := elapsed } }

/-- LinesDegradeOnlyBeyondTheirRating: at 90 °C the rating is reached, and then passed, at the end of the period in
progress. -/
theorem witness_degradation :
    atRest (aged 639936) ∧ atRest (aged 639937) ∧ (aged 639936).rst.timer = some .single ∧
      (aged 639937).array.undefinedDraw = none ∧ Sparse.wf Damage.intact (aged 639937).array.damage = true ∧
      [(639936 : Nat), 639937].map (fun t => (aged t).overdue (.host place) 90) = [false, true] := by decide +kernel

/-- InvariantsAtResetAndTheTableFits: a state with consistent sessions and entries in its table. -/
theorem witness_sessions : mixed.tableConsistent ∧ (occupied .fenceWait).sessionsConsistent := by decide +kernel

end Sys2Proof.Tests
end

section
/-!
PROOFS. A predicate that every command keeps. What the due steps, the lanes and the requests do is split here once into
the few changes of the array, the table and the sessions that matter to an invariant about them; `WorkInvariant` names
those changes, and `WorkInvariant.step` carries a predicate that withstands them through every command.
-/
namespace Sys2Proof.Machine

/-! ## Operations that keep a predicate -/

/-- `f` leads from states with `P` to states with `P`. -/
def Keeps (P : State → Prop) (f : State → State) : Prop := ∀ s, P s → P (f s)

section
variable {P : State → Prop}

theorem keeps_whileRunning {f : State → State} (hf : Keeps P f) : Keeps P (whileRunning f) := fun s h => by
  unfold whileRunning
  split
  · exact hf s h
  · exact h

theorem keeps_foldl {α : Type} {f : State → α → State} (hf : ∀ x, Keeps P (f · x)) :
    ∀ xs : List α, Keeps P (fun s => xs.foldl f s)
  | [], _, h => h
  | x :: xs, s, h => keeps_foldl hf xs (f s x) (hf x s h)

theorem keeps_tell (hd : ∀ a, Keeps P (decideLane · a)) (lanes : List LaneId) : Keeps P (tell lanes) :=
  keeps_foldl hd lanes

/-- Whatever next state the outcome is, it has `P`. -/
def Yields (P : State → Prop) (o : Host.Outcome State Fault Refusal) : Prop := ∀ t, o = .next t → P t

theorem yields_next {s : State} (h : P s) : Yields P (.next s) := fun _ ht => Host.Outcome.next.inj ht ▸ h

/-- The due steps keep what the sender's choice and each of them keeps (R159). -/
theorem keeps_settle (hk : Keeps P kick) (hp : ∀ d, Keeps P (perform d)) : Keeps P settle := by
  have hfor : ∀ n s, P s → P (settleFor n s) := by
    intro n
    induction n with
    | zero => exact hk
    | succ n ih =>
      intro s h
      unfold settleFor
      split
      · exact hk s h
      · exact ih _ (hp _ _ (hk s h))
  exact hfor 32

/-- What INT takes is refused or goes to its owner (R114, R184). -/
theorem keeps_intTakes (hrefuse : ∀ slot tag r, Keeps P (refuse slot tag r)) (row : RequestRow)
    {owner : Request → State → State} (ho : ∀ r, Keeps P (owner r)) : Keeps P (intTakes row owner) := fun s h => by
  unfold intTakes
  split
  · exact h
  · split
    · split
      · exact hrefuse _ _ _ s h
      · exact ho _ s h
    · exact h

/-- Lane `a` performs a phase of kind `ph` of entry `e`, whose location is `loc` (R8, R24). -/
structure State.Performs (s : State) (a : LaneId) (ph : Phase) (p : PageName) (line : ArrayLine) (e : Entry)
    (loc : Location) : Prop where
  phase : (s.lane a).state = .access p e.key ph line
  entry : s.entry e.key = some e
  location : e.location = some loc

theorem State.key_of_entry {s : State} {k : EntryKey} {e : Entry} (h : s.entry k = some e) : e.key = k := by
  simpa using List.find?_some h

theorem State.mem_of_entry {s : State} {k : EntryKey} {e : Entry} (h : s.entry k = some e) : e ∈ s.table :=
  List.mem_of_find?_eq_some h

/-- All that the command of a completed phase can answer: no such phase is performed, or one is performed and completes,
or the entry of the phase is missing. -/
theorem phaseCompletion_cases (a : LaneId) (ph : Phase) (f : PageName → ArrayLine → Entry → Location → State → State)
    (s : State) :
    phaseCompletion a ph f s = .next (kick (settle s)) ∨
    (∃ p line e loc, (settle s).Performs a ph p line e loc ∧
      phaseCompletion a ph f s = .next (kick (f p line e loc (settle s)))) ∨
    (∃ p k line, ((settle s).lane a).state = .access p k ph line ∧
      (∀ e, (settle s).entry k = some e → e.location = none) ∧
      phaseCompletion a ph f s = .fault .entryMissing) := by
  unfold phaseCompletion
  extract_lets t
  split
  · exact Or.inl rfl
  · split
    · next p k ph' line hl =>
      split
      · next hph =>
        subst hph
        split
        · next he => exact Or.inr (Or.inr ⟨p, k, line, hl, by simp [t, he], rfl⟩)
        · next e he =>
          have hk := State.key_of_entry he
          split
          · next hloc =>
            refine Or.inr (Or.inr ⟨p, k, line, hl, fun e' he' => ?_, rfl⟩)
            rwa [← Option.some.inj (he.symm.trans he')]
          · next loc hloc => exact Or.inr (Or.inl ⟨p, line, e, loc, ⟨hk ▸ hl, hk ▸ he, hloc⟩, rfl⟩)
      · exact Or.inl rfl
    · exact Or.inl rfl

end

/-! ## Changes that no invariant of the array, the table and the sessions looks at -/

/-- State `t` has the table, the reply list, the slots, the lanes' states, the CLOSED replies and the array's tables of
`s`. -/
structure State.Quiet (s t : State) : Prop where
  table : t.table = s.table
  replies : t.replies = s.replies
  slots : t.slots = s.slots
  states : ∀ a, (t.lane a).state = (s.lane a).state
  closes : t.waiting.filterMap Waiting.closes = s.waiting.filterMap Waiting.closes
  cells : t.array.cells = s.array.cells
  damage : t.array.damage = s.array.damage
  restoredAt : t.array.restoredAt = s.array.restoredAt

/-- The blocks beside the table, the slots, the lanes and the array can change quietly. -/
theorem quiet_blocks (s : State) {pending : List Instr} {pins : Pins} {link : Link} {rst : Restoration} {itg : Integrity}
    {prf : Profiles} {stc : Controller} {snu : Notices} {draws : Nat} :
    s.Quiet { s with
      pending := pending, pins := pins, link := link, rst := rst, itg := itg, prf := prf, stc := stc, snu := snu
      draws := draws } := ⟨rfl, rfl, rfl, fun _ => rfl, rfl, rfl, rfl, rfl⟩

theorem quiet_onLink (f : Link → Link) (s : State) : s.Quiet (s.onLink f) := quiet_blocks s

theorem quiet_kick (s : State) : s.Quiet (kick s) := by
  rw [kick_eq]
  exact quiet_blocks s

/-- A reply that is no CLOSED is produced quietly. -/
theorem quiet_produce {w : Waiting} (hw : w.closes = none) (s : State) : s.Quiet (produce w s) :=
  ⟨rfl, rfl, rfl, fun _ => rfl, by simp [hw], rfl, rfl, rfl⟩

theorem quiet_reply (m : Message) (s : State) : s.Quiet (reply m s) := quiet_produce rfl s

theorem quiet_produceProfileState (s : State) : s.Quiet (produceProfileState s) := by
  obtain ⟨before, after, draws, hw, -, h⟩ := produceProfileState_eq s
  rw [h]
  refine ⟨rfl, rfl, rfl, fun _ => rfl, ?_, rfl, rfl, rfl⟩
  rw [hw, List.filterMap_append, List.filterMap_append]
  rfl

theorem quiet_postNotice (n : Notice) (s : State) : s.Quiet (postNotice n s) := by
  rw [postNotice_eq]
  exact quiet_blocks s

/-- A lane's record replaced by one in the same lane state. -/
theorem quiet_setLane {a : LaneId} {l : Lane} {s : State} (h : l.state = (s.lane a).state) : s.Quiet (s.setLane a l) :=
  ⟨rfl, rfl, rfl, fun b => by rw [State.setLane_lane]; split <;> simp_all, rfl, rfl, rfl, rfl⟩

/-- A lane's record replaced, against the lane state alone replaced. -/
theorem quiet_setLane_of_state {a : LaneId} {l : Lane} {st : LaneState} {s : State} (h : l.state = st) :
    (s.setLaneState a st).Quiet (s.setLane a l) :=
  ⟨rfl, rfl, rfl, fun b => by rw [State.setLane_lane, State.setLaneState_lane]; split <;> simp_all, rfl, rfl, rfl, rfl⟩

/-- Every lane's record changed in a way that keeps its lane state. -/
theorem quiet_mapLanes {f : Lane → Lane} (hf : ∀ l, (f l).state = l.state) (s : State) :
    s.Quiet { s with lanes := s.lanes.map f } :=
  ⟨rfl, rfl, rfl, fun a => by simp [State.lane, hf], rfl, rfl, rfl, rfl⟩

theorem Lane.reevaluate_state (deferral : Nat) (l : Lane) : (l.reevaluate deferral).state = l.state := by
  unfold Lane.reevaluate
  split
  · rfl
  · split <;> rfl

theorem Lane.expire_state (deferral : Nat) (l : Lane) : (l.expire deferral).state = l.state := by
  unfold Lane.expire
  split <;> rfl

theorem State.Quiet.trans {s t u : State} (h : s.Quiet t) (k : t.Quiet u) : s.Quiet u :=
  ⟨k.table.trans h.table, k.replies.trans h.replies, k.slots.trans h.slots, fun a => (k.states a).trans (h.states a),
    k.closes.trans h.closes, k.cells.trans h.cells, k.damage.trans h.damage, k.restoredAt.trans h.restoredAt⟩

theorem quiet_offerSuspect (loc : Location) (spare : Option SpareId) (s : State) :
    s.Quiet (offerSuspect loc spare s) := by
  rcases offerSuspect_cases loc spare s with ⟨-, h⟩ | ⟨-, -, h⟩ | ⟨-, -, h⟩ <;> rw [h]
  · exact quiet_blocks s
  · exact (quiet_blocks s).trans (quiet_postNotice _ _)
  · exact (quiet_blocks s).trans (quiet_postNotice _ _)

/-- ITG's handling of a read outcome is a matter of counts and suspects (R78). -/
theorem quiet_handleOutcome (loc : Location) (line : ArrayLine) (o : ReadOutcome) (s : State) :
    s.Quiet (handleOutcome loc line o s) := by
  cases o with
  | clean => exact quiet_blocks s
  | corrected => exact quiet_setLane rfl
  | lost =>
    refine State.Quiet.trans ?_ (quiet_offerSuspect _ _ _)
    exact quiet_setLane rfl

theorem State.Performs.quiet {s t : State} {a : LaneId} {ph : Phase} {p : PageName} {line : ArrayLine} {e : Entry}
    {loc : Location} (h : s.Performs a ph p line e loc) (q : s.Quiet t) : t.Performs a ph p line e loc :=
  ⟨(q.states a).trans h.phase, by rw [State.entry, q.table]; exact h.entry, h.location⟩

/-- What a lane performs does not depend on the array. -/
theorem State.Performs.setArray {s : State} {a : LaneId} {ph : Phase} {p : PageName} {line : ArrayLine} {e : Entry}
    {loc : Location} (h : s.Performs a ph p line e loc) (m : Storage) :
    ({ s with array := m } : State).Performs a ph p line e loc := ⟨h.phase, h.entry, h.location⟩

/-- The entry of a key after a change that keeps the key. -/
theorem State.entry_onEntry {k : EntryKey} {f : Entry → Entry} (hf : ∀ e, e.key = k → (f e).key = k) (s : State) :
    (s.onEntry k f).entry k = (s.entry k).map f := by
  simp only [State.entry, State.onEntry_table]
  induction s.table with
  | nil => rfl
  | cons e es ih =>
    by_cases he : e.key = k
    · simp [he, hf e he]
    · simpa [he] using ih

/-! ## What the checks of a request guarantee -/

/-- A data request that passes the checks of R115 is for an OPEN slot with room, and its tag is new. -/
theorem dataChecks_ok {s : State} {slot tag : Byte} {k : SlotId} (h : dataChecks s slot tag = .ok k) :
    (s.slot k).state = .opened ∧ s.entryCount k < (s.slot k).window ∧ s.tagInUse k tag = false := by
  unfold dataChecks at h
  split at h
  · cases h
  · split at h
    · cases h
    · next j hj =>
      split at h
      · cases h
      · next hroom =>
        split at h
        · cases h
        · next htag =>
          obtain rfl := Except.ok.inj h
          refine ⟨?_, by omega, by simpa using htag⟩
          unfold dataSlot at hj
          split at hj
          · cases hj
          · split at hj
            · next hopen => exact Except.ok.inj hj ▸ hopen
            · cases hj
            · cases hj

/-- A CLOSE that passes the checks of R102 is for an OPEN slot. -/
theorem closeChecks_ok {s : State} {slot : Byte} {k : SlotId} (h : closeChecks s slot = .ok k) :
    (s.slot k).state = .opened := by
  unfold closeChecks at h
  split at h
  · cases h
  · split at h
    · cases h
    · split at h
      · next hopen => exact Except.ok.inj h ▸ hopen
      · cases h
      · cases h

/-! ## The changes that matter -/

/-- The slot's PROFILE_HELD and QUEUED entries freed, the slot CLOSING, its FENCEs checked: a CLOSE with discard before
the lanes decide (R38, R103, R104). -/
def discardEntries (k : SlotId) (s : State) : State :=
  closeIfDrained k (completeFences (Entry.chargedTo k) (depart
    { s.setSlot k { s.slot k with
        state := .closing, discarded := (s.table.filter (Entry.discardable k)).length } with
      table := s.table.filter (fun e => !e.discardable k) }))

theorem closeDiscarding_eq (k : SlotId) (s : State) : closeDiscarding k s = tellChanged s (discardEntries k s) := rfl

/-- Every PROFILE_HELD entry released under a map (R35). -/
def releaseAll (active : Option Profile) (s : State) : State :=
  { s with table := s.table.map (fun e => if e.state = .profileHeld then releaseEntry active e else e) }

theorem releaseHeld_eq (s : State) : releaseHeld s = completeFences (fun _ => true) (releaseAll s.prf.active s) := rfl

/-- The entry of a phase out of the lane's hands: an orphan's place freed, any other entry in REPLY_WAIT (R29, R40). -/
def finishEntry (e : Entry) (s : State) : State :=
  if e.orphan then freeEntry e.key s else toReplyWait e.key (statusOf e.found) s

theorem endWork_eq (a : LaneId) (p : PageName) (e : Entry) (s : State) :
    endWork a p e s =
      let t := completeFences (Entry.chargedTo e.key.slot) (finishEntry e (s.setLaneState a (.held p)))
      tell (allLanes.filter (fun b => b == a || toldOf s t b)) t := rfl

/-- The entry with what its READ phase yields: the line buffer and the outcome (R12, R29). -/
def readEntry (line : ArrayLine) (e : Entry) (s : State) : Entry :=
  let o := outcomeOf (s.array.level line)
  { e with buffer := some (s.readBuffer line o), found := some o }

/-- The state after a READ phase, before the phase that follows or the end of the array work (R12, R78). -/
def afterRead (line : ArrayLine) (e : Entry) (loc : Location) (s : State) : State :=
  handleOutcome loc line (outcomeOf (s.array.level line))
    { s.onEntry e.key (fun _ => readEntry line e s) with draws := s.draws + 1 }

theorem readCompletes_eq (a : LaneId) (p : PageName) (line : ArrayLine) (e : Entry) (loc : Location) (s : State) :
    readCompletes a p line e loc s =
      match followingPhase (afterRead line e loc s).writeBackOn e.kind (outcomeOf (s.array.level line)) with
      | some ph => (afterRead line e loc s).setLaneState a (.access p e.key ph line)
      | none => endWork a p (readEntry line e s) (afterRead line e loc s) := rfl

theorem quiet_afterRead (line : ArrayLine) (e : Entry) (loc : Location) (s : State) :
    (s.onEntry e.key (fun _ => readEntry line e s)).Quiet (afterRead line e loc s) := by
  refine State.Quiet.trans ?_ (quiet_handleOutcome loc line _ _)
  exact ⟨rfl, rfl, rfl, fun _ => rfl, rfl, rfl, rfl, rfl⟩

/-- What `P` withstands, one clause for each change that the commands make to the array, the in-flight table, the slots,
the lanes' states and the CLOSED replies that wait. -/
structure WorkInvariant (P : State → Prop) : Prop where
  quiet : ∀ {s t}, P s → s.Quiet t → P t
  decide : ∀ a, Keeps P (decideLane · a)
  fences : ∀ check, Keeps P (completeFences check)
  release : ∀ active, Keeps P (releaseAll active)
  accept : ∀ (key : EntryKey) (kind : EntryKind) (s : State), (s.slot key.slot).state = .opened →
    s.entryCount key.slot < (s.slot key.slot).window → s.tagInUse key.slot key.tag = false → P s →
    P { s with table := s.table ++ [acceptedEntry s key kind] }
  openSlot : ∀ (k : SlotId) (asked : Nat) (order : ReplyOrder) (s : State), (s.slot k).state = .free → P s →
    P (openSlot k asked order s)
  close : ∀ (k : SlotId) (s : State), (s.slot k).state = .opened → P s → P (closeKeeping k s)
  discard : ∀ (k : SlotId) (s : State), (s.slot k).state = .opened → P s → P (discardEntries k s)
  grantClosed : ∀ (k : SlotId) (n : Nat) (ws : List Waiting) (s : State), s.waiting = .closed k n :: ws → P s →
    P (({ s with waiting := ws } : State).setSlot k Slot.unused)
  grantEntry : Keeps P grantEntry
  linkReset : Keeps P linkResetBlocks
  fullReset : Keeps P fullReset
  powerLost : Keeps P powerLost
  initialized : ∀ s : State, P s → P { s with array := Storage.initialized }
  idle : ∀ (a : LaneId) (st : LaneState) (s : State), st.idle = true → P s → P (s.setLaneState a st)
  nextPhase : ∀ (a : LaneId) (p : PageName) (ph ph' : Phase) (line : ArrayLine) (e : Entry) (loc : Location) (s : State),
    s.Performs a ph p line e loc → P s → P (s.setLaneState a (.access p e.key ph' line))
  buffer : ∀ (e e' : Entry) (s : State), s.entry e.key = some e → e'.key = e.key → e'.state = e.state →
    e'.location = e.location → P s → P (s.onEntry e.key (fun _ => e'))
  finish : ∀ (a : LaneId) (ph : Phase) (p : PageName) (line : ArrayLine) (e : Entry) (loc : Location) (s : State),
    s.Performs a ph p line e loc → P s → P (finishEntry e (s.setLaneState a (.held p)))
  write : ∀ (line : ArrayLine) (bytes : List Byte) (s : State), P s → P { s with array := s.array.write line bytes }
  restored : ∀ (a : LaneId) (p : Fin 16384) (s : State), P s → P { s with array := s.array.step a p }
  degraded : ∀ (line : ArrayLine) (level : Damage) (s : State), P s → P { s with
    array := { s.array with damage := Sparse.put .intact s.array.damage (lineNumber line) level } }

namespace WorkInvariant
variable {P : State → Prop} (h : WorkInvariant P)
include h

/-! ## Due steps -/

theorem kick : Keeps P kick := fun s hs => h.quiet hs (quiet_kick s)

theorem reply (m : Message) : Keeps P (reply m) := fun s hs => h.quiet hs (quiet_reply m s)

theorem refuse (slot tag : Byte) (r : Reason) : Keeps P (refuse slot tag r) := h.reply _

theorem depart : Keeps P depart := fun s hs => h.quiet hs (quiet_blocks s)

theorem produceStc (r : StcReply) : Keeps P (produce (.stc r)) := fun s hs => h.quiet hs (quiet_produce rfl s)

theorem tell (lanes : List LaneId) : Keeps P (tell lanes) := keeps_tell h.decide lanes

theorem applyProfile (p : Profile) : Keeps P (applyProfile p) := fun s hs => by
  have hlanes := h.quiet hs (quiet_mapLanes (Lane.reevaluate_state p.deferral) s)
  refine h.tell _ _ ?_
  rw [releaseHeld_eq]
  exact h.fences _ _ (h.release _ _ (h.quiet hlanes (quiet_blocks _)))

/-- The application of a profile (R138). -/
theorem application (p : Profile) : Keeps P (application p) := fun s hs => by
  unfold Machine.application
  split
  · exact h.applyProfile p _ (h.reply _ _ (h.quiet hs (quiet_blocks s)))
  · exact h.applyProfile p _ (h.quiet hs (quiet_produce rfl s))

/-- The end of the drain (R169). -/
theorem drainEnds : Keeps P drainEnds := fun s hs => by
  refine h.tell _ _ ?_
  split
  · exact h.produceStc _ _ (h.quiet hs (quiet_blocks s))
  · exact h.quiet hs (quiet_blocks s)

/-- The grant to the first reply of class 1 (R159). -/
theorem grantClass1 : Keeps P grantClass1 := fun s hs => by
  unfold Machine.grantClass1
  split
  · exact hs
  · next w ws hw =>
    have leaves (hc : w.closes = none) : P (enqueue w.message { s with waiting := ws }) :=
      h.quiet hs ⟨rfl, rfl, rfl, fun _ => rfl, by simp [hw, hc], rfl, rfl, rfl⟩
    cases w with
    | int m => exact h.depart _ (leaves rfl)
    | closed k n => exact h.quiet (h.grantClosed k n ws s hw hs) (quiet_blocks _)
    | profileApplied label => exact leaves rfl
    | stc r => exact leaves rfl

theorem grantNotice : Keeps P grantNotice := fun s hs => by
  unfold Machine.grantNotice
  split
  · exact hs
  · exact h.quiet hs (quiet_blocks s)

theorem perform (d : Due) : Keeps P (perform d) := fun s hs => by
  unfold Machine.perform
  cases d with
  | application =>
    dsimp only
    split
    · exact h.kick _ (h.application _ s hs)
    · exact hs
  | drain => exact h.kick _ (h.drainEnds s hs)
  | intReply | closedReply | profileApplied | stcReply => exact h.kick _ (h.grantClass1 s hs)
  | entryReply => exact h.kick _ (h.grantEntry s hs)
  | notice => exact h.kick _ (h.grantNotice s hs)

theorem settle : Keeps P settle := keeps_settle h.kick h.perform


/-! ## Requests -/

theorem unlessInitializing {answer : State → State} (ha : Keeps P answer) : Keeps P (unlessInitializing answer) :=
  fun s hs => by
    unfold Machine.unlessInitializing
    split
    · exact h.refuse _ _ _ s hs
    · exact ha s hs

theorem dataRequest (slot tag : Byte) (kind : Except Reason EntryKind) : Keeps P (dataRequest slot tag kind) :=
  fun s hs => by
    unfold Machine.dataRequest
    split
    · exact h.refuse _ _ _ s hs
    · next k hk =>
      obtain ⟨hopen, hroom, htag⟩ := dataChecks_ok hk
      split
      · exact h.refuse _ _ _ s hs
      · next kind =>
        exact h.tell _ _ (h.fences _ _ (h.depart _ (h.accept ⟨k, tag⟩ kind s hopen hroom htag hs)))

theorem openRequest (window order : Byte) : Keeps P (openRequest window order) := fun s hs => by
  unfold Machine.openRequest
  split
  · exact h.refuse _ _ _ s hs
  · split
    · exact h.refuse _ _ _ s hs
    · split
      · exact h.refuse _ _ _ s hs
      · split
        · exact h.refuse _ _ _ s hs
        · next k hk =>
          split
          · exact h.refuse _ _ _ s hs
          · exact h.openSlot _ _ _ s (by simpa using List.find?_some hk) hs

theorem closeRequest (slot : Byte) {close : SlotId → State → State}
    (hc : ∀ (k : SlotId) (s : State), (s.slot k).state = .opened → P s → P (close k s)) :
    Keeps P (closeRequest slot close) := fun s hs => by
  unfold Machine.closeRequest
  split
  · exact h.refuse _ _ _ s hs
  · next k hk => exact hc k s (closeChecks_ok hk) hs

theorem takeProfile (p : Profile) : Keeps P (takeProfile p) := fun s hs => by
  unfold Machine.takeProfile
  split
  · exact h.quiet hs (quiet_blocks s)
  · exact h.tell _ _ (h.quiet hs (quiet_blocks s))

theorem setProfileRequest (record : List Byte) : Keeps P (setProfileRequest record) := fun s hs => by
  unfold Machine.setProfileRequest
  split
  · exact h.refuse _ _ _ s hs
  · split
    · exact h.refuse _ _ _ s hs
    · split
      · exact h.reply _ s hs
      · exact h.takeProfile _ s hs

theorem restRequest : Keeps P restRequest := fun s hs => by
  unfold Machine.restRequest
  split
  · exact h.refuse _ _ _ s hs
  · exact h.refuse _ _ _ s hs
  · split
    · exact h.refuse _ _ _ s hs
    · exact h.tell _ _ (h.quiet hs (quiet_blocks s))
  · exact h.refuse _ _ _ s hs

theorem cancelRest : Keeps P cancelRest := fun s hs => by
  refine h.tell _ _ (h.produceStc _ _ ?_)
  split
  · exact h.produceStc _ _ (h.quiet hs (quiet_blocks s))
  · exact h.quiet hs (quiet_blocks s)

theorem wakeRequest : Keeps P wakeRequest := fun s hs => by
  unfold Machine.wakeRequest
  split
  · exact h.refuse _ _ _ s hs
  · exact h.cancelRest s hs
  · exact h.tell _ _ (h.quiet hs (quiet_blocks s))
  · exact h.refuse _ _ _ s hs

theorem clearCounters : Keeps P clearCounters := fun s hs =>
  h.quiet (h.quiet hs (quiet_mapLanes (f := fun l => { l with corrected := 0, lost := 0, overruns := 0 })
    (fun _ => rfl) s)) (quiet_blocks _)

theorem getTableRequest (code lane : Byte) : Keeps P (getTableRequest code lane) :=
  h.unlessInitializing fun s hs => by
    split
    · exact h.reply _ s hs
    · split
      · split
        · exact h.refuse _ _ _ s hs
        · exact h.reply _ s hs
      · exact h.refuse _ _ _ s hs

theorem forgetRequest (lane : Byte) (page : Nat) (line : Byte) : Keeps P (forgetRequest lane page line) :=
  h.unlessInitializing fun s hs => by
    dsimp only
    split
    · exact h.refuse _ _ _ s hs
    · split
      · exact h.reply _ _ (h.quiet hs (quiet_blocks s))
      · exact h.refuse _ _ _ s hs

/-! ## Completions at the lanes -/

theorem openCompletes (a : LaneId) : Keeps P (openCompletes a) := fun s hs => by
  unfold Machine.openCompletes
  split
  · exact h.decide a _ (h.idle a _ s rfl hs)
  · exact hs

theorem closeCompletes (a : LaneId) : Keeps P (closeCompletes a) := fun s hs => by
  unfold Machine.closeCompletes
  split
  · exact h.decide a _ (h.idle a _ s rfl hs)
  · exact hs

theorem stepCompletes (a : LaneId) : Keeps P (stepCompletes a) := fun s hs => by
  unfold Machine.stepCompletes
  split
  · refine h.decide a _ ?_
    exact h.quiet (h.idle a .closed _ rfl (h.restored a (s.lane a).pointer s hs)) (quiet_setLane_of_state rfl)
  · exact hs

theorem endWork {a : LaneId} {ph : Phase} {p : PageName} {line : ArrayLine} {e : Entry} {loc : Location} {s : State}
    (hp : s.Performs a ph p line e loc) (hs : P s) : P (endWork a p e s) := by
  rw [endWork_eq]
  exact h.tell _ _ (h.fences _ _ (h.finish a ph p line e loc s hp hs))

theorem readCompletes {a : LaneId} {p : PageName} {line : ArrayLine} {e : Entry} {loc : Location} {s : State}
    (hp : s.Performs a .read p line e loc) (hs : P s) : P (readCompletes a p line e loc s) := by
  have q := quiet_afterRead line e loc s
  have hread : P (afterRead line e loc s) := h.quiet (h.buffer e (readEntry line e s) s hp.entry rfl rfl rfl hs) q
  have hentry : (s.onEntry e.key (fun _ => readEntry line e s)).entry e.key = some (readEntry line e s) := by
    rw [State.entry_onEntry (k := e.key) (f := fun _ => readEntry line e s) (fun _ _ => rfl), hp.entry]
    rfl
  have hbuffered : (s.onEntry e.key (fun _ => readEntry line e s)).Performs a .read p line (readEntry line e s) loc :=
    ⟨hp.phase, hentry, hp.location⟩
  have hperforms := hbuffered.quiet q
  rw [readCompletes_eq]
  split
  · exact h.nextPhase a p .read _ line (readEntry line e s) loc _ hperforms hread
  · exact h.endWork hperforms hread

theorem degrade (line : ArrayLine) (level : Damage) (temperature : Int) : Keeps P (degrade line level temperature) :=
  fun s hs => by
    unfold Machine.degrade
    split
    · exact h.degraded line level s hs
    · exact hs

/-! ## Timers -/

theorem postNotice (n : Notice) : Keeps P (postNotice n) := fun s hs => h.quiet hs (quiet_postNotice n s)

theorem timerExpires : Keeps P timerExpires := fun s hs => by
  unfold Machine.timerExpires
  split
  · exact hs
  · refine h.tell _ _ (keeps_foldl (fun a => h.postNotice _) _ _ ?_)
    exact h.quiet (h.quiet hs (quiet_mapLanes (Lane.expire_state s.deferral) s))
      ⟨rfl, rfl, rfl, fun _ => rfl, rfl, rfl, rfl, rfl⟩

theorem readingCompletes (temperature : Int) : Keeps P (readingCompletes temperature) := fun s hs => by
  unfold Machine.readingCompletes
  split
  · exact hs
  · dsimp only
    split
    · exact h.quiet hs (quiet_blocks s)
    · exact h.postNotice _ _ (h.quiet hs (quiet_blocks s))

theorem wakeCompletes : Keeps P wakeCompletes := fun s hs => by
  unfold Machine.wakeCompletes
  split
  · refine h.tell _ _ ?_
    split
    · exact h.produceStc _ _ (h.quiet hs (quiet_blocks s))
    · exact h.quiet hs (quiet_blocks s)
  · exact hs

/-! ## Commands -/

theorem event {f : State → State} (hf : Keeps P f) {s : State} (hs : P s) : Yields P (event f s) :=
  yields_next (h.kick _ (hf _ (h.settle s hs)))

theorem internal (d : Due) {s : State} (hs : P s) : Yields P (internal d s) := by
  unfold Machine.internal
  split
  · exact yields_next (h.perform d s hs)
  · exact yields_next hs

theorem phaseCompletion {a : LaneId} {ph : Phase} {f : PageName → ArrayLine → Entry → Location → State → State}
    (hf : ∀ p line e loc s, s.Performs a ph p line e loc → P s → P (f p line e loc s)) {s : State} (hs : P s) :
    Yields P (phaseCompletion a ph f s) := by
  rcases phaseCompletion_cases a ph f s with hc | ⟨p, line, e, loc, hp, hc⟩ | ⟨_, _, _, _, _, hc⟩ <;> rw [hc]
  · exact yields_next (h.kick _ (h.settle s hs))
  · exact yields_next (h.kick _ (hf p line e loc _ hp (h.settle s hs)))
  · exact fun _ ht => nomatch ht

/-- An event that changes the link only. -/
theorem linkEvent (f : Link → Link) {s : State} (hs : P s) :
    Yields P (Machine.event (whileRunning fun s => s.onLink f) s) :=
  h.event (keeps_whileRunning fun s hs => h.quiet hs (quiet_onLink f s)) hs

theorem downSequencedFrame (k n : Byte) (m : List Byte) {s : State} (hs : P s) :
    Yields P (execDownSequencedFrame k n m s) :=
  h.event (keeps_whileRunning fun s hs => by
    split
    · exact h.quiet hs (quiet_onLink _ s)
    · exact hs) hs

theorem downFrameCheckFailed (frame : List Byte) {s : State} (hs : P s) : Yields P (execDownFrameCheckFailed frame s) :=
  h.event (keeps_whileRunning fun s hs => by
    split
    · exact h.quiet hs (quiet_onLink _ s)
    · exact hs) hs

theorem replayTimerExpiry {s : State} (hs : P s) : Yields P (execReplayTimerExpiry s) :=
  h.event (keeps_whileRunning fun s hs => by
    split
    · exact h.quiet hs (quiet_onLink _ s)
    · exact hs) hs

theorem execLinkReset (k : Byte) {s : State} (hs : P s) : Yields P (execLinkReset k s) :=
  h.event (keeps_whileRunning fun s hs => by
    have hreset := h.linkReset _ (h.quiet hs (quiet_onLink (fun l => l.acknowledge k) s))
    dsimp only
    split
    · exact h.tell _ _ hreset
    · exact h.tell _ _ hreset) hs

theorem execFullReset (k : Byte) {s : State} (hs : P s) : Yields P (execFullReset k s) :=
  h.event (keeps_whileRunning fun s hs =>
    h.fullReset _ (h.quiet hs (quiet_onLink (fun l => l.acknowledge k) s))) hs

theorem resetNFall {s : State} (hs : P s) : Yields P (execResetNFall s) :=
  h.event (fun s hs => by
    have hpin : P { s with pins := { s.pins with resetN := false } } := h.quiet hs (quiet_blocks s)
    dsimp only
    split
    · split
      · exact h.fullReset _ hpin
      · exact hpin
    · exact hs) hs

theorem resetNRise {s : State} (hs : P s) : Yields P (execResetNRise s) :=
  h.event (fun s hs => by
    dsimp only
    split
    · exact hs
    · split
      · exact h.quiet hs (quiet_blocks s)
      · exact h.quiet hs (quiet_blocks s)) hs

theorem powerUp {s : State} (hs : P s) : Yields P (execPowerUp s) :=
  h.event (fun s hs => by
    split
    · exact hs
    · exact h.fullReset _ (h.quiet hs (quiet_blocks s))) hs

theorem supplyOutOfRange {s : State} (hs : P s) : Yields P (execSupplyOutOfRange s) :=
  h.event (fun s hs => by
    split
    · exact h.powerLost s hs
    · exact hs) hs

theorem arrayInitializationCompletion {s : State} (hs : P s) : Yields P (execArrayInitializationCompletion s) :=
  h.event (keeps_whileRunning fun s hs => by
    split
    · have hlanes := h.quiet (h.initialized s hs)
        (quiet_mapLanes (f := fun l => { l with debt := 0, forced := false, pointer := 0 }) (fun _ => rfl) _)
      exact h.tell _ _ (h.quiet hlanes (quiet_blocks _))
    · exact hs) hs

/-- A request whose owner keeps the predicate. -/
theorem request (row : RequestRow) {owner : Request → State → State} (ho : ∀ r, Keeps P (owner r)) {s : State}
    (hs : P s) : Yields P (Machine.event (intTakes row owner) s) :=
  h.event (keeps_intTakes h.refuse row ho) hs

theorem execRead {s : State} (hs : P s) : Yields P (execRead s) :=
  h.request .read (fun r s hs => by
    cases r with
    | read => exact h.dataRequest _ _ _ s hs
    | _ => exact hs) hs

theorem execWrite {s : State} (hs : P s) : Yields P (execWrite s) :=
  h.request .write (fun r s hs => by
    cases r with
    | write => exact h.dataRequest _ _ _ s hs
    | _ => exact hs) hs

theorem execMerge {s : State} (hs : P s) : Yields P (execMerge s) :=
  h.request .merge (fun r s hs => by
    cases r with
    | merge => exact h.dataRequest _ _ _ s hs
    | _ => exact hs) hs

theorem execFence {s : State} (hs : P s) : Yields P (execFence s) :=
  h.request .fence (fun r s hs => by
    cases r with
    | fence => exact h.dataRequest _ _ _ s hs
    | _ => exact hs) hs

theorem execOpenSession {s : State} (hs : P s) : Yields P (execOpenSession s) :=
  h.request .openSession (fun r s hs => by
    cases r with
    | openSession => exact h.openRequest _ _ s hs
    | _ => exact hs) hs

theorem execCloseSession {s : State} (hs : P s) : Yields P (execCloseSession s) :=
  h.request .close (fun r s hs => by
    cases r with
    | close => exact h.closeRequest _ h.close s hs
    | _ => exact hs) hs

theorem execCloseWithDiscard {s : State} (hs : P s) : Yields P (execCloseWithDiscard s) :=
  h.request .closeWithDiscard (fun r s hs => by
    cases r with
    | close =>
      refine h.closeRequest _ (fun k s ho hs => ?_) s hs
      rw [closeDiscarding_eq]
      exact h.tell _ _ (h.discard k s ho hs)
    | _ => exact hs) hs

theorem execSetProfile {s : State} (hs : P s) : Yields P (execSetProfile s) :=
  h.request .setProfile (fun r s hs => by
    cases r with
    | setProfile => exact h.setProfileRequest _ s hs
    | _ => exact hs) hs

theorem execGetTableSuspect {s : State} (hs : P s) : Yields P (execGetTableSuspect s) :=
  h.request .getTableSuspect (fun r s hs => by
    cases r with
    | getTable => exact h.getTableRequest _ _ s hs
    | _ => exact hs) hs

theorem execGetTableRemap {s : State} (hs : P s) : Yields P (execGetTableRemap s) :=
  h.request .getTableRemap (fun r s hs => by
    cases r with
    | getTable => exact h.getTableRequest _ _ s hs
    | _ => exact hs) hs

theorem execForget {s : State} (hs : P s) : Yields P (execForget s) :=
  h.request .forget (fun r s hs => by
    cases r with
    | forget => exact h.forgetRequest _ _ _ s hs
    | _ => exact hs) hs

theorem execForgetAll {s : State} (hs : P s) : Yields P (execForgetAll s) :=
  h.request .forgetAll (fun _ => h.unlessInitializing fun s hs => h.reply _ _ (h.quiet hs (quiet_blocks s))) hs

/-- A predicate that withstands the changes of the array, the table, the slots and the lanes' states holds after every
command that takes a next state. -/
theorem exec (i : Instr) {s : State} (hs : P s) : Yields P (Machine.exec i s) := by
  cases i with
  | downSequencedFrame => exact h.downSequencedFrame _ _ _ hs
  | downFrameCheckFailed => exact h.downFrameCheckFailed _ hs
  | ack => exact h.linkEvent _ hs
  | resend => exact h.linkEvent _ hs
  | linkReset => exact h.execLinkReset _ hs
  | fullReset => exact h.execFullReset _ hs
  | resetNFall => exact h.resetNFall hs
  | resetNRise => exact h.resetNRise hs
  | powerUp => exact h.powerUp hs
  | supplyOutOfRange => exact h.supplyOutOfRange hs
  | read => exact h.execRead hs
  | write => exact h.execWrite hs
  | merge => exact h.execMerge hs
  | fence => exact h.execFence hs
  | openSession => exact h.execOpenSession hs
  | closeSession => exact h.execCloseSession hs
  | closeWithDiscard => exact h.execCloseWithDiscard hs
  | setProfile => exact h.execSetProfile hs
  | getProfile =>
    exact h.request .getProfile
      (fun _ => h.unlessInitializing fun s hs => h.quiet hs (quiet_produceProfileState s)) hs
  | rest => exact h.request .rest (fun _ => h.restRequest) hs
  | wake => exact h.request .wake (fun _ => h.wakeRequest) hs
  | getStatus => exact h.request .getStatus (fun _ => fun s hs => h.reply _ s hs) hs
  | getStatusClearCounters =>
    exact h.request .getStatusClearCounters (fun _ => fun s hs => h.reply _ _ (h.clearCounters s hs)) hs
  | getTableSuspect => exact h.execGetTableSuspect hs
  | getTableRemap => exact h.execGetTableRemap hs
  | forget => exact h.execForget hs
  | forgetAll => exact h.execForgetAll hs
  | unknownKindMessage => exact h.request .unknownKind (fun _ => fun _ hs => hs) hs
  | pageOpenCompletion a => exact h.event (keeps_whileRunning (h.openCompletes a)) hs
  | readPhaseCompletion => exact h.phaseCompletion (fun _ _ _ _ _ hp => h.readCompletes hp) hs
  | writePhaseCompletion a =>
    exact h.phaseCompletion (fun p line e loc s hp hs =>
      h.endWork (hp.setArray _) (h.write line e.written s hs)) hs
  | writeBackPhaseCompletion a =>
    exact h.phaseCompletion (fun p line e loc s hp hs =>
      h.endWork (hp.setArray _) (h.write line (e.buffer.getD []) s hs)) hs
  | pageCloseCompletion a => exact h.event (keeps_whileRunning (h.closeCompletes a)) hs
  | restorationStepCompletion a => exact h.event (keeps_whileRunning (h.stepCompletes a)) hs
  | restorationTimerExpiry => exact h.event (keeps_whileRunning h.timerExpires) hs
  | temperatureReadingCompletion => exact h.event (keeps_whileRunning (h.readingCompletes _)) hs
  | arrayInitializationCompletion => exact h.arrayInitializationCompletion hs
  | wakeCompletion => exact h.event (keeps_whileRunning h.wakeCompletes) hs
  | replayTimerExpiry => exact h.replayTimerExpiry hs
  | transmissionEnd => exact h.linkEvent _ hs
  | lineDegradation => exact h.event (keeps_whileRunning (h.degrade _ _ _)) hs
  | profileApplication | drainComplete | intReplyGrant | entryReplyGrant | closedReplyGrant | profileAppliedGrant
  | stcReplyGrant | noticeGrant => exact h.internal _ hs

/-- A predicate that withstands these changes is kept by every step. -/
theorem step {s : State} (hs : P s) : Yields P (Machine.step s) := by
  unfold Machine.step
  split
  · exact yields_next (h.settle s hs)
  · exact h.exec _ (h.quiet hs (quiet_blocks s))

end WorkInvariant
end Sys2Proof.Machine
end

section
/-!
PROOFS. The canonical form of the array's tables is kept by every step (O57).
-/
namespace Sys2Proof.Machine

/-! ## Operations that leave the array alone -/

/-- A decision leaves the array alone. -/
theorem State.Decided.array {s t : State} (h : s.Decided t) : t.array = s.array := by
  rw [h.1]

theorem closeIfDrained_cases (k : SlotId) (s : State) :
    ((s.slot k).state = .closing ∧ s.entryCount k = 0 ∧
      closeIfDrained k s = produce (.closed k (s.slot k).discarded) s) ∨
    (((s.slot k).state ≠ .closing ∨ s.entryCount k ≠ 0) ∧ closeIfDrained k s = s) := by
  unfold closeIfDrained
  by_cases h : (s.slot k).state = .closing ∧ s.entryCount k = 0
  · exact Or.inl ⟨h.1, h.2, if_pos h⟩
  · exact Or.inr ⟨by tauto, if_neg h⟩

@[simp] theorem closeIfDrained_array (k : SlotId) (s : State) : (closeIfDrained k s).array = s.array := by
  rcases closeIfDrained_cases k s with ⟨-, -, h⟩ | ⟨-, h⟩ <;> rw [h]
  rfl

@[simp] theorem freeEntry_array (k : EntryKey) (s : State) : (freeEntry k s).array = s.array := by
  rw [freeEntry_eq]

@[simp] theorem grantEntry_array (s : State) : (grantEntry s).array = s.array := by
  unfold grantEntry
  split
  · rfl
  · rw [freeEntry_array, enqueue_array]

@[simp] theorem finishEntry_array (e : Entry) (s : State) : (finishEntry e s).array = s.array := by
  unfold finishEntry
  split
  · exact freeEntry_array _ s
  · rfl

/-- The end of array work changes no content (R29). -/
@[simp] theorem endWork_array (a : LaneId) (p : PageName) (e : Entry) (s : State) :
    (endWork a p e s).array = s.array := by
  rw [endWork_eq]
  exact (decided_tell _ _).array.trans (finishEntry_array e (s.setLaneState a (.held p)))

/-! ## Full reset -/

/-- The lines that the lanes named were writing, left undefined one after another (R18). -/
def spoilLanes (s : State) (lanes : List LaneId) (t : State) : State :=
  lanes.foldl (fun t a =>
    match (s.lane a).state.writing with
    | some l => { t with array := t.array.spoil l t.draws, draws := t.draws + 1 }
    | none => t) t

theorem spoilWrites_eq (s : State) : spoilWrites s = spoilLanes s allLanes s := rfl

/-- What holds of a state and of every state with one more line spoilt, holds after the lanes named have had their turn. -/
theorem spoilLanes_induction {P : State → Prop} {s : State}
    (hspoil : ∀ (a : LaneId) (l : ArrayLine) (t : State), (s.lane a).state.writing = some l → P t →
      P { t with array := t.array.spoil l t.draws, draws := t.draws + 1 }) :
    ∀ (lanes : List LaneId) (t : State), P t → P (spoilLanes s lanes t)
  | [], _, h => h
  | a :: lanes, t, h => by
    unfold spoilLanes
    rw [List.foldl_cons]
    apply spoilLanes_induction hspoil lanes
    split
    · next l hl => exact hspoil a l t hl h
    · exact h

theorem spoilWrites_canonical {s : State} (h : s.array.canonical) : (spoilWrites s).array.canonical := by
  rw [spoilWrites_eq]
  exact spoilLanes_induction (P := fun t => t.array.canonical) (fun _ l t _ ht => Storage.spoil_canonical l t.draws ht)
    allLanes s h

/-! ## The invariant -/

/-- The array in canonical form withstands every change that the commands make. -/
theorem arrayCanonical_workInvariant : WorkInvariant State.arrayCanonical where
  quiet := fun {s t} h q => by
    obtain ⟨hcells, hdamage, hrestored⟩ := h
    exact ⟨q.cells ▸ hcells, q.damage ▸ hdamage, q.restoredAt ▸ hrestored⟩
  decide a s h := by rwa [State.arrayCanonical, (decided_decideLane s a).array]
  fences _ _ h := h
  release _ _ h := h
  accept _ _ _ _ _ _ h := h
  openSlot _ _ _ _ _ h := h
  close k s _ h := by rwa [State.arrayCanonical, closeKeeping, closeIfDrained_array]
  discard k s _ h := by rwa [State.arrayCanonical, discardEntries, closeIfDrained_array]
  grantClosed _ _ _ _ _ h := h
  grantEntry s h := by rwa [State.arrayCanonical, grantEntry_array]
  linkReset _ h := h
  fullReset _ h := spoilWrites_canonical h
  powerLost _ _ := ⟨rfl, rfl, rfl⟩
  initialized _ _ := Storage.initialized_canonical
  idle _ _ _ _ h := h
  nextPhase _ _ _ _ _ _ _ _ _ h := h
  buffer _ _ _ _ _ _ _ h := h
  finish _ _ _ _ e _ _ _ h := by rwa [State.arrayCanonical, finishEntry_array]
  write line bytes _ h := Storage.write_canonical line bytes h
  restored a p _ h := Storage.step_canonical a p h
  degraded line level _ h := ⟨h.1, Sparse.put_wf _ _ (lineNumber line) level h.2.1, h.2.2⟩

/-- Settles O57: the canonical form withstands every change that the commands make. -/
theorem everyStepKeepsTheArrayCanonical : Obligations.EveryStepKeepsTheArrayCanonical :=
  fun _ t h ht => arrayCanonical_workInvariant.step h t ht

end Sys2Proof.Machine
end

section
/-!
PROOFS. The in-flight table stays consistent with the reply list and the lanes under every step, and no step stops (the
first half of O59).
-/
namespace Sys2Proof.Machine

/-! ## What consistency says -/

/-- Key `k` names an entry in REPLY_WAIT. -/
def State.Waits (s : State) (k : EntryKey) : Prop := ∃ e ∈ s.table, e.key = k ∧ e.state = .replyWait

/-- Key `k` names an entry in state `st` that has its location in lane `a`. -/
def State.Stands (s : State) (st : EntryState) (a : LaneId) (k : EntryKey) : Prop :=
  ∃ e ∈ s.table, e.key = k ∧ e.state = st ∧ ∃ loc, e.location = some loc ∧ loc.lane = a

theorem State.servesEntry_iff (s : State) (a : LaneId) :
    s.servesEntry a = true ↔ ∀ p k ph line, (s.lane a).state = .access p k ph line → s.Stands .active a k := by
  unfold State.servesEntry
  split
  · next p k ph line hl =>
    refine Iff.trans (b := s.Stands .active a k) (by simp [State.Stands, and_assoc, Option.any_eq_true])
      ⟨fun h _ _ _ _ hl' => ?_, fun h => h p k ph line hl⟩
    obtain ⟨-, rfl, -, -⟩ := LaneState.access.inj (hl.symm.trans hl')
    exact h
  · next hl => simpa using fun p k ph line h => absurd h (hl p k ph line)

theorem State.tableConsistent_iff (s : State) :
    s.tableConsistent ↔ (s.table.map (·.key)).Nodup ∧ (∀ k ∈ s.replies, s.Waits k) ∧
      ∀ a p k ph line, (s.lane a).state = .access p k ph line → s.Stands .active a k := by
  simp only [State.tableConsistent, State.servesEntry_iff, State.Waits, List.any_eq_true, Bool.and_eq_true,
    beq_iff_eq]

theorem eq_of_key_eq {t : List Entry} (h : (t.map (·.key)).Nodup) {e f : Entry} (he : e ∈ t) (hf : f ∈ t)
    (hk : e.key = f.key) : e = f := List.inj_on_of_nodup_map h he hf hk

/-- In a consistent table the entry of a key is the one found. -/
theorem State.entry_eq_some {s : State} (h : (s.table.map (·.key)).Nodup) {e : Entry} (he : e ∈ s.table) :
    s.entry e.key = some e := by
  cases hf : s.entry e.key with
  | none => exact absurd (List.find?_eq_none.mp hf e he) (by simp)
  | some f => rw [eq_of_key_eq h he (State.mem_of_entry hf) (State.key_of_entry hf).symm]

/-- The entry that a lane's access phase is for: ACTIVE, in its lane, found by its key (R8, R28). -/
theorem State.Performs.active {s : State} {a : LaneId} {ph : Phase} {p : PageName} {line : ArrayLine} {e : Entry}
    {loc : Location} (hp : s.Performs a ph p line e loc) (h : s.tableConsistent) :
    e ∈ s.table ∧ e.state = .active ∧ loc.lane = a := by
  obtain ⟨hkeys, -, hlanes⟩ := s.tableConsistent_iff.mp h
  obtain ⟨f, hf, hk, hactive, loc', hloc, hlane⟩ := hlanes a _ _ _ _ hp.phase
  have he := State.mem_of_entry hp.entry
  obtain rfl := eq_of_key_eq hkeys hf he hk
  rw [hp.location] at hloc
  exact ⟨he, hactive, Option.some.inj hloc ▸ hlane⟩

/-! ## Changes that keep consistency -/

/-- A table changed entry by entry, the keys kept: it is consistent when the REPLY_WAIT entries stay so, and what joins
the reply list and what the lanes serve are in order. -/
theorem tableConsistent_of_map {s t : State} (g : Entry → Entry) (h : s.tableConsistent)
    (htable : t.table = s.table.map g) (hkey : ∀ e ∈ s.table, (g e).key = e.key)
    (hwait : ∀ e ∈ s.table, e.state = .replyWait → (g e).state = .replyWait)
    (hreplies : ∀ k ∈ t.replies, k ∈ s.replies ∨ t.Waits k)
    (hlanes : ∀ a p k ph line, (t.lane a).state = .access p k ph line → t.Stands .active a k) : t.tableConsistent := by
  obtain ⟨hkeys, hr, -⟩ := s.tableConsistent_iff.mp h
  refine t.tableConsistent_iff.mpr ⟨?_, fun k hk => ?_, hlanes⟩
  · have : t.table.map (·.key) = s.table.map (·.key) := by
      rw [htable, List.map_map]
      exact List.map_congr_left hkey
    rwa [this]
  · rcases hreplies k hk with hk | hk
    · obtain ⟨e, he, rfl, hst⟩ := hr k hk
      exact ⟨g e, htable ▸ List.mem_map_of_mem he, hkey e he, hwait e he hst⟩
    · exact hk

/-- What an entry's change of state makes of where it stands. -/
theorem State.Stands.map {s t : State} {st st' : EntryState} {a : LaneId} {k : EntryKey} (g : Entry → Entry)
    (h : s.Stands st a k) (htable : t.table = s.table.map g)
    (hg : ∀ e ∈ s.table, e.key = k → e.state = st →
      (g e).key = k ∧ (g e).state = st' ∧ (g e).location = e.location) : t.Stands st' a k := by
  obtain ⟨e, he, hk, hst, hloc⟩ := h
  obtain ⟨hk', hst', hloc'⟩ := hg e he hk hst
  exact ⟨g e, htable ▸ List.mem_map_of_mem he, hk', hst', hloc' ▸ hloc⟩

/-- State `t` has the table of `s` with every entry's key, state and location, its reply list and its lanes' states. -/
structure State.SameWork (s t : State) (g : Entry → Entry) : Prop where
  table : t.table = s.table.map g
  entries : ∀ e ∈ s.table, (g e).key = e.key ∧ (g e).state = e.state ∧ (g e).location = e.location
  replies : t.replies = s.replies
  states : ∀ a, (t.lane a).state = (s.lane a).state

theorem State.SameWork.stands {s t : State} {g : Entry → Entry} (w : s.SameWork t g) {st : EntryState} {a : LaneId}
    {k : EntryKey} (h : s.Stands st a k) : t.Stands st a k :=
  h.map g w.table fun e he hk hst => by
    obtain ⟨hkey, hstate, hloc⟩ := w.entries e he
    exact ⟨hkey.trans hk, hstate.trans hst, hloc⟩

theorem State.SameWork.consistent {s t : State} {g : Entry → Entry} (w : s.SameWork t g) (h : s.tableConsistent) :
    t.tableConsistent := by
  refine tableConsistent_of_map g h w.table (fun e he => (w.entries e he).1)
    (fun e he hst => (w.entries e he).2.1.trans hst) (fun k hk => Or.inl (w.replies ▸ hk)) fun a p k ph line hl => ?_
  rw [w.states a] at hl
  exact w.stands ((s.tableConsistent_iff.mp h).2.2 a p k ph line hl)

theorem State.Quiet.sameWork {s t : State} (q : s.Quiet t) : s.SameWork t id :=
  ⟨by rw [q.table, List.map_id], fun _ _ => ⟨rfl, rfl, rfl⟩, q.replies, q.states⟩

/-- A lane in a state that is no access phase, or in one for an entry at work, keeps the rest consistent. -/
theorem tableConsistent_setLaneState {s : State} {a : LaneId} {st : LaneState} (h : s.tableConsistent)
    (hst : ∀ p k ph line, st = .access p k ph line → s.Stands .active a k) : (s.setLaneState a st).tableConsistent := by
  obtain ⟨hkeys, hr, hlanes⟩ := s.tableConsistent_iff.mp h
  refine (State.tableConsistent_iff _).mpr ⟨hkeys, hr, fun b p k ph line hl => ?_⟩
  rw [State.setLaneState_lane] at hl
  split at hl
  · next hb => exact hb ▸ hst p k ph line hl
  · exact hlanes b p k ph line hl

/-- Entries taken out that no lane serves, with their names off the reply list, leave the rest consistent. -/
theorem tableConsistent_of_filter {s t : State} (keep : Entry → Bool) (h : s.tableConsistent)
    (htable : t.table = s.table.filter keep) (hreplies : ∀ k ∈ t.replies, k ∈ s.replies)
    (hwaits : ∀ e ∈ s.table, e.state = .replyWait → e.key ∈ t.replies → keep e = true)
    (hlanes : ∀ a, (t.lane a).state = (s.lane a).state)
    (hworks : ∀ a p k ph line, (s.lane a).state = .access p k ph line →
      ∀ e ∈ s.table, e.key = k → e.state = .active → keep e = true) : t.tableConsistent := by
  obtain ⟨hkeys, hr, hw⟩ := s.tableConsistent_iff.mp h
  refine t.tableConsistent_iff.mpr ⟨?_, fun k hk => ?_, fun a p k ph line hl => ?_⟩
  · rw [htable]
    exact hkeys.sublist (List.filter_sublist.map _)
  · obtain ⟨e, he, rfl, hst⟩ := hr k (hreplies k hk)
    exact ⟨e, htable ▸ List.mem_filter.mpr ⟨he, hwaits e he hst hk⟩, rfl, hst⟩
  · rw [hlanes a] at hl
    obtain ⟨e, he, hk, hst, hloc⟩ := hw a p k ph line hl
    exact ⟨e, htable ▸ List.mem_filter.mpr ⟨he, hworks a p k ph line hl e he hk hst⟩, hk, hst, hloc⟩

/-! ## A lane's decision -/

theorem mem_eligibleFrom {a : LaneId} {e : Entry} :
    ∀ {rest older : List Entry}, e ∈ eligibleFrom a older rest → e ∈ rest ∧ e.state = .queued ∧ e.inQueue a = true
  | [], _, h => absurd h List.not_mem_nil
  | x :: rest, older, h => by
    unfold eligibleFrom at h
    split at h
    · next hx =>
      rcases List.mem_cons.mp h with rfl | h
      · simp only [Bool.and_eq_true, beq_iff_eq] at hx
        exact ⟨List.mem_cons_self, hx.1.1, hx.1.2⟩
      · exact (mem_eligibleFrom h).imp_left (List.mem_cons_of_mem x)
    · exact (mem_eligibleFrom h).imp_left (List.mem_cons_of_mem x)

/-- An eligible entry of a lane is a QUEUED entry of the table with its location in the lane (R43, R45). -/
theorem mem_eligible {s : State} {a : LaneId} {e : Entry} (h : e ∈ s.eligible a) :
    e ∈ s.table ∧ e.state = .queued ∧ ∃ loc, e.location = some loc ∧ loc.lane = a := by
  obtain ⟨he, hst, hq⟩ := mem_eligibleFrom h
  refine ⟨he, hst, ?_⟩
  simpa [Entry.inQueue, hst, Option.any_eq_true] using hq

theorem decideHeld_serve {s : State} {a : LaneId} {p : PageName} {k : EntryKey} {passed : List EntryKey}
    (h : s.decideHeld a p = .serve k passed) : ∃ e ∈ s.eligible a, e.key = k := by
  unfold State.decideHeld at h
  split at h
  · split at h <;> cases h
  · next o es hE =>
    split at h
    · obtain ⟨rfl, -⟩ := Action.serve.inj h
      exact ⟨o, hE ▸ List.mem_cons_self, rfl⟩
    · split at h
      · cases h
      · split at h
        · next e he =>
          obtain ⟨rfl, -⟩ := Action.serve.inj h
          exact ⟨e, hE ▸ List.mem_of_find?_eq_some he, rfl⟩
        · cases h

/-- A decision serves an eligible entry only (R50 to R53). -/
theorem decision_serve {s : State} {a : LaneId} {k : EntryKey} {passed : List EntryKey}
    (h : s.decision a = .serve k passed) : ∃ e ∈ s.eligible a, e.key = k := by
  unfold State.decision at h
  split at h
  · split at h
    · cases h
    · exact decideHeld_serve h
  · split at h
    · cases h
    · unfold State.decideClosed at h
      split at h
      · next o _ _ => cases ht : s.targetOf o <;> simp [ht] at h
      · split at h
        · cases h
        · split at h <;> cases h
  · cases h

theorem Entry.pass_fields (e : Entry) : e.pass.key = e.key ∧ e.pass.state = e.state ∧ e.pass.location = e.location :=
  ⟨rfl, rfl, rfl⟩

theorem sameWork_raisePasses (passed : List EntryKey) (s : State) :
    s.SameWork (raisePasses passed s) (fun e => if e.key ∈ passed then e.pass else e) :=
  ⟨rfl, fun e _ => by
    split
    · exact e.pass_fields
    · exact ⟨rfl, rfl, rfl⟩, rfl, fun _ => rfl⟩

/-- ITG's decision at a selection marks the entry at most (R91, R92). -/
theorem sameWork_selectWrite (k : EntryKey) (loc : Location) (s : State) :
    ∃ g, s.SameWork (selectWrite k loc s) g := by
  unfold selectWrite
  split
  · split
    · next f _ =>
      have q : s.Quiet (s.setLane loc.lane ((s.lane loc.lane).remap loc f)) := quiet_setLane rfl
      refine ⟨fun e => if e.key = k then { e with remapped := true } else e, rfl, fun e _ => ?_, rfl, q.states⟩
      split <;> exact ⟨rfl, rfl, rfl⟩
    · split
      · exact ⟨id, (quiet_blocks s).sameWork⟩
      · refine ⟨id, (State.Quiet.trans ?_ (quiet_postNotice _ _)).sameWork⟩
        exact quiet_setLane rfl
  · exact ⟨id, (quiet_blocks s).sameWork⟩

/-- A QUEUED entry made ACTIVE: the table stays consistent, and the entry is at work (R28). -/
theorem tableConsistent_activate {s : State} {a : LaneId} {k : EntryKey} (h : s.tableConsistent)
    (hq : s.Stands .queued a k) :
    (s.onEntry k (fun e => { e with state := .active })).tableConsistent ∧
      (s.onEntry k (fun e => { e with state := .active })).Stands .active a k := by
  obtain ⟨hkeys, -, hlanes⟩ := s.tableConsistent_iff.mp h
  constructor
  · refine tableConsistent_of_map _ h rfl (fun e _ => by split <;> rfl) (fun e he hst => ?_) (fun k hk => Or.inl hk)
      fun b p k' ph line hl => ?_
    · obtain ⟨f, hf, hk, hqueued, -⟩ := hq
      have hne : e.key ≠ k := fun hek => by
        rw [eq_of_key_eq hkeys he hf (hek.trans hk.symm), hqueued] at hst
        cases hst
      rwa [if_neg hne]
    · refine (hlanes b p k' ph line hl).map _ rfl fun e _ hk hst => ?_
      split
      · exact ⟨hk, rfl, rfl⟩
      · exact ⟨hk, hst, rfl⟩
  · exact hq.map _ rfl fun e _ hk _ => by rw [if_pos hk]; exact ⟨hk, rfl, rfl⟩

theorem tableConsistent_serve {s : State} {a : LaneId} (p : PageName) {k : EntryKey} (passed : List EntryKey)
    (h : s.tableConsistent) (hq : s.Stands .queued a k) : (serve a p k passed s).tableConsistent := by
  have finish {u : State} (hu : u.tableConsistent) (huq : u.Stands .queued a k) (ph : Phase) (line : ArrayLine) :
      ((u.onEntry k (fun e => { e with state := .active })).setLaneState a (.access p k ph line)).tableConsistent := by
    obtain ⟨hactive, hworks⟩ := tableConsistent_activate hu huq
    refine tableConsistent_setLaneState hactive fun _ _ _ _ hst => ?_
    obtain ⟨-, rfl, -, -⟩ := LaneState.access.inj hst
    exact hworks
  unfold serve
  split
  · exact h
  · split
    · exact h
    · next loc _ =>
      have w := sameWork_raisePasses passed s
      obtain ⟨g, w'⟩ := sameWork_selectWrite k loc (raisePasses passed s)
      dsimp only
      split
      · exact finish (w'.consistent (w.consistent h)) (w'.stands (w.stands hq)) _ _
      · exact finish (w.consistent h) (w.stands hq) _ _

theorem tableConsistent_decideLane (a : LaneId) : Keeps State.tableConsistent (decideLane · a) := fun s h => by
  dsimp only
  unfold decideLane act
  split
  · next k passed p hd _ =>
    obtain ⟨e, he, rfl⟩ := decision_serve hd
    obtain ⟨hmem, hst, hloc⟩ := mem_eligible he
    exact tableConsistent_serve p passed h ⟨e, hmem, rfl, hst, hloc⟩
  · exact tableConsistent_setLaneState h fun _ _ _ _ hst => nomatch hst
  · exact tableConsistent_setLaneState h fun _ _ _ _ hst => nomatch hst
  · exact tableConsistent_setLaneState h fun _ _ _ _ hst => nomatch hst
  · exact h

/-! ## The table's own changes -/

/-- A FENCE check leaves every entry that is not in FENCE_WAIT as it is (R26). -/
theorem mem_completeFencesFrom {check : Entry → Bool} {e : Entry} (hst : e.state ≠ .fenceWait) :
    ∀ {es older : List Entry}, e ∈ es → e ∈ (completeFencesFrom check older es).1
  | x :: es, older, h => by
    unfold completeFencesFrom
    split
    · next hx =>
      rcases List.mem_cons.mp h with rfl | h
      · simp [fenceDone, hst] at hx
      · exact List.mem_cons_of_mem _ (mem_completeFencesFrom hst h)
    · rcases List.mem_cons.mp h with rfl | h
      · exact List.mem_cons_self
      · exact List.mem_cons_of_mem _ (mem_completeFencesFrom hst h)

/-- A FENCE that completes is in REPLY_WAIT (R26). -/
theorem completeFencesFrom_replyWait {check : Entry → Bool} {k : EntryKey} :
    ∀ {es older : List Entry}, k ∈ (completeFencesFrom check older es).2 →
      ∃ e ∈ (completeFencesFrom check older es).1, e.key = k ∧ e.state = .replyWait
  | [], _, h => absurd h List.not_mem_nil
  | x :: es, older, h => by
    unfold completeFencesFrom at h ⊢
    split at h
    · next hx =>
      rw [if_pos hx]
      rcases List.mem_cons.mp h with rfl | h
      · exact ⟨_, List.mem_cons_self, rfl, rfl⟩
      · obtain ⟨e, he, hk, hst⟩ := completeFencesFrom_replyWait h
        exact ⟨e, List.mem_cons_of_mem _ he, hk, hst⟩
    · next hx =>
      rw [if_neg hx]
      obtain ⟨e, he, hk, hst⟩ := completeFencesFrom_replyWait h
      exact ⟨e, List.mem_cons_of_mem _ he, hk, hst⟩

theorem tableConsistent_completeFences (check : Entry → Bool) : Keeps State.tableConsistent (completeFences check) :=
  fun s h => by
    obtain ⟨hkeys, hr, hlanes⟩ := s.tableConsistent_iff.mp h
    refine (State.tableConsistent_iff _).mpr ⟨by rwa [completeFences_keys], fun k hk => ?_, fun a p k ph line hl => ?_⟩
    · rcases List.mem_append.mp hk with hk | hk
      · obtain ⟨e, he, hek, hst⟩ := hr k hk
        exact ⟨e, mem_completeFencesFrom (by simp [hst]) he, hek, hst⟩
      · exact completeFencesFrom_replyWait hk
    · obtain ⟨e, he, hek, hst, hloc⟩ := hlanes a p k ph line hl
      exact ⟨e, mem_completeFencesFrom (by simp [hst]) he, hek, hst, hloc⟩

theorem releaseEntry_key (active : Option Profile) (e : Entry) : (releaseEntry active e).key = e.key := by
  unfold releaseEntry
  split <;> rfl

theorem tableConsistent_releaseAll (active : Option Profile) : Keeps State.tableConsistent (releaseAll active) :=
  fun s h => by
    refine tableConsistent_of_map _ h rfl (fun e _ => ?_) (fun e _ hst => by simp [hst]) (fun k hk => Or.inl hk)
      fun a p k ph line hl => ?_
    · split
      · exact releaseEntry_key active e
      · rfl
    · exact ((s.tableConsistent_iff.mp h).2.2 a p k ph line hl).map _ rfl fun e _ hk hst => by
        simpa [hst] using hk

theorem acceptedEntry_key (s : State) (key : EntryKey) (kind : EntryKind) : (acceptedEntry s key kind).key = key := by
  unfold acceptedEntry
  split
  · rfl
  · exact releaseEntry_key _ _

/-- An entry that joins with a new key leaves the table consistent (R22). -/
theorem tableConsistent_append {s : State} {e : Entry} (h : s.tableConsistent)
    (hnew : s.tagInUse e.key.slot e.key.tag = false) : ({ s with table := s.table ++ [e] } : State).tableConsistent := by
  obtain ⟨hkeys, hr, hlanes⟩ := s.tableConsistent_iff.mp h
  have hne : ∀ f ∈ s.table, f.key ≠ e.key := by
    simpa [State.tagInUse] using hnew
  refine (State.tableConsistent_iff _).mpr ⟨?_, fun k hk => ?_, fun a p k ph line hl => ?_⟩
  · simp only [List.map_append, List.map_cons, List.map_nil]
    exact List.nodup_append.mpr ⟨hkeys, List.nodup_singleton _, by simpa using hne⟩
  · obtain ⟨f, hf, hfk⟩ := hr k hk
    exact ⟨f, List.mem_append_left _ hf, hfk⟩
  · obtain ⟨f, hf, hfk⟩ := hlanes a p k ph line hl
    exact ⟨f, List.mem_append_left _ hf, hfk⟩

/-- Slots and class 1 replies are nothing that the table agrees with. -/
theorem tableConsistent_congr {s t : State} (h : s.tableConsistent) (htable : t.table = s.table)
    (hreplies : t.replies = s.replies) (hstates : ∀ a, (t.lane a).state = (s.lane a).state) : t.tableConsistent :=
  State.SameWork.consistent (g := id) ⟨by rw [htable, List.map_id], fun _ _ => ⟨rfl, rfl, rfl⟩, hreplies, hstates⟩ h

theorem tableConsistent_closeIfDrained (k : SlotId) : Keeps State.tableConsistent (closeIfDrained k) := fun s h => by
  rcases closeIfDrained_cases k s with ⟨-, -, hc⟩ | ⟨-, hc⟩ <;> rw [hc]
  · exact tableConsistent_congr h rfl rfl fun _ => rfl
  · exact h

theorem tableConsistent_discardEntries (k : SlotId) : Keeps State.tableConsistent (discardEntries k) := fun s h => by
  refine tableConsistent_closeIfDrained k _ (tableConsistent_completeFences _ _ ?_)
  refine tableConsistent_of_filter (fun e => !e.discardable k) h rfl (fun _ hk => hk) ?_ (fun _ => rfl) ?_
  · intro e _ hst _
    simp [Entry.discardable, hst]
  · intro _ _ _ _ _ _ e _ _ hst
    simp [Entry.discardable, hst]

/-- An entry freed that no lane serves leaves the rest consistent (R22, R23, R30). -/
theorem tableConsistent_freeEntry {s : State} {k : EntryKey} (h : s.tableConsistent)
    (hidle : ∀ a p ph line, (s.lane a).state ≠ .access p k ph line) : (freeEntry k s).tableConsistent := by
  rw [freeEntry_eq]
  refine tableConsistent_of_filter (fun e => e.key != k) h rfl (fun _ hk => (List.mem_filter.mp hk).1) ?_ (fun _ => rfl) ?_
  · intro e _ _ hk
    exact (List.mem_filter.mp hk).2
  · intro a p k' ph line hl e _ hk _
    simp only [bne_iff_ne, ne_eq]
    rintro rfl
    exact hidle a p ph line (hk ▸ hl)

theorem candidate_eq_some {s : State} {e : Entry} (h : s.candidate = some e) : e ∈ s.table ∧ e.key ∈ s.replies := by
  obtain ⟨k, hk, he⟩ := Option.bind_eq_some_iff.mp h
  exact ⟨State.mem_of_entry he, State.key_of_entry he ▸ List.mem_of_find?_eq_some hk⟩

theorem tableConsistent_grantEntry : Keeps State.tableConsistent grantEntry := fun s h => by
  unfold grantEntry
  split
  · exact h
  · next e he =>
    obtain ⟨hmem, hrep⟩ := candidate_eq_some he
    obtain ⟨hkeys, hr, hlanes⟩ := s.tableConsistent_iff.mp h
    obtain ⟨f, hf, hfk, hwait⟩ := hr _ hrep
    obtain rfl := eq_of_key_eq hkeys hf hmem hfk
    refine tableConsistent_freeEntry (tableConsistent_congr h rfl rfl fun _ => rfl) fun a p ph line hl => ?_
    obtain ⟨g, hg, hgk, hactive, -⟩ := hlanes a p f.key ph line hl
    rw [eq_of_key_eq hkeys hg hf hgk, hwait] at hactive
    cases hactive

/-- A link reset keeps ACTIVE entries only (R39). -/
theorem linkResetBlocks_keys_sublist (s : State) :
    ((linkResetBlocks s).table.map (·.key)).Sublist (s.table.map (·.key)) := by
  have hkeys : (linkResetBlocks s).table.map (·.key) = (s.table.filter (fun e => e.state == .active)).map (·.key) := by
    simp [linkResetBlocks, orphanTable]
  rw [hkeys]
  exact List.filter_sublist.map _

theorem tableConsistent_linkReset : Keeps State.tableConsistent linkResetBlocks := fun s h => by
  obtain ⟨hkeys, -, hlanes⟩ := s.tableConsistent_iff.mp h
  refine (State.tableConsistent_iff _).mpr ⟨hkeys.sublist (linkResetBlocks_keys_sublist s),
    fun k hk => absurd hk List.not_mem_nil, fun a p k ph line hl => ?_⟩
  obtain ⟨e, he, hk, hst, hloc⟩ := hlanes a p k ph line hl
  exact ⟨{ e with orphan := true }, List.mem_map_of_mem (List.mem_filter.mpr ⟨he, by simp [hst]⟩), hk, hst, hloc⟩

/-- Reset leaves nothing to agree: no entry, no reply, no access phase. -/
theorem tableConsistent_of_reset {s : State} (htable : s.table = []) (hreplies : s.replies = [])
    (hlanes : s.lanes = Eight.replicate Lane.reset) : s.tableConsistent := by
  refine s.tableConsistent_iff.mpr ⟨by simp [htable], by simp [hreplies], fun a p k ph line hl => ?_⟩
  rw [State.lane, hlanes, Eight.get_replicate] at hl
  cases hl

/-! ## The end of array work -/

theorem tableConsistent_toReplyWait {s : State} {e : Entry} (st : Status) (h : s.tableConsistent) (he : e ∈ s.table)
    (hidle : ∀ a p ph line, (s.lane a).state ≠ .access p e.key ph line) :
    (toReplyWait e.key st s).tableConsistent := by
  refine tableConsistent_of_map _ h rfl (fun e _ => by split <;> rfl) (fun e _ hst => ?_) (fun k hk => ?_)
    fun a p k ph line hl => ?_
  · split
    · rfl
    · exact hst
  · rcases List.mem_append.mp hk with hk | hk
    · exact Or.inl hk
    · obtain rfl := List.mem_singleton.mp hk
      exact Or.inr ⟨{ e with state := .replyWait, outcome := some st }, List.mem_map.mpr ⟨e, he, if_pos rfl⟩, rfl, rfl⟩
  · refine ((s.tableConsistent_iff.mp h).2.2 a p k ph line hl).map _ rfl fun f _ hfk hst => ?_
    have hne : f.key ≠ e.key := fun hek => hidle a p ph line (by rw [← hek, hfk]; exact hl)
    rw [if_neg hne]
    exact ⟨hfk, hst, rfl⟩

theorem tableConsistent_finishEntry {s : State} {a : LaneId} {ph : Phase} {p : PageName} {line : ArrayLine} {e : Entry}
    {loc : Location} (hp : s.Performs a ph p line e loc) (h : s.tableConsistent) :
    (finishEntry e (s.setLaneState a (.held p))).tableConsistent := by
  obtain ⟨he, -, hlane⟩ := hp.active h
  have hheld : (s.setLaneState a (.held p)).tableConsistent :=
    tableConsistent_setLaneState h fun _ _ _ _ hst => nomatch hst
  have hidle : ∀ b q ph line, ((s.setLaneState a (.held p)).lane b).state ≠ .access q e.key ph line := by
    intro b q ph line hl
    rw [State.setLaneState_lane] at hl
    split at hl
    · cases hl
    · next hb =>
      obtain ⟨hkeys, -, hlanes⟩ := s.tableConsistent_iff.mp h
      obtain ⟨f, hf, hfk, -, loc', hloc, hb'⟩ := hlanes b q e.key ph line hl
      obtain rfl := eq_of_key_eq hkeys hf he hfk
      rw [hp.location] at hloc
      exact hb (hb'.symm.trans (Option.some.inj hloc ▸ hlane))
  unfold finishEntry
  split
  · exact tableConsistent_freeEntry hheld hidle
  · exact tableConsistent_toReplyWait _ hheld he hidle

/-- The buffer filled and the outcome found: nothing that the table's consistency is about (R12). -/
theorem tableConsistent_buffer {s : State} {e e' : Entry} (h : s.tableConsistent) (he : s.entry e.key = some e)
    (hkey : e'.key = e.key) (hstate : e'.state = e.state) (hloc : e'.location = e.location) :
    (s.onEntry e.key (fun _ => e')).tableConsistent := by
  refine State.SameWork.consistent (g := fun f => if f.key = e.key then e' else f) ⟨rfl, fun f hf => ?_, rfl, fun _ => rfl⟩ h
  split
  · next hfk =>
    obtain rfl := eq_of_key_eq (s.tableConsistent_iff.mp h).1 hf (State.mem_of_entry he) hfk
    exact ⟨hkey, hstate, hloc⟩
  · exact ⟨rfl, rfl, rfl⟩

/-- A consistent table withstands every change that the commands make. -/
theorem tableConsistent_workInvariant : WorkInvariant State.tableConsistent where
  quiet h q := q.sameWork.consistent h
  decide := tableConsistent_decideLane
  fences := tableConsistent_completeFences
  release := tableConsistent_releaseAll
  accept key kind s _ _ hnew h := tableConsistent_append h (by rwa [acceptedEntry_key])
  openSlot _ _ _ _ _ h := tableConsistent_congr h rfl rfl fun _ => rfl
  close k _ _ h := tableConsistent_closeIfDrained k _ (tableConsistent_congr h rfl rfl fun _ => rfl)
  discard k s _ h := tableConsistent_discardEntries k s h
  grantClosed _ _ _ _ _ h := tableConsistent_congr h rfl rfl fun _ => rfl
  grantEntry := tableConsistent_grantEntry
  linkReset := tableConsistent_linkReset
  fullReset _ _ := tableConsistent_of_reset rfl rfl rfl
  powerLost _ _ := tableConsistent_of_reset rfl rfl rfl
  initialized _ h := tableConsistent_congr h rfl rfl fun _ => rfl
  idle a st s hidle h := tableConsistent_setLaneState h fun _ _ _ _ hst => by subst hst; cases hidle
  nextPhase a p ph ph' line e loc s hp h := tableConsistent_setLaneState h fun _ _ _ _ hst => by
    obtain ⟨-, rfl, -, -⟩ := LaneState.access.inj hst
    exact (s.tableConsistent_iff.mp h).2.2 a p e.key ph line hp.phase
  buffer _ _ _ he hkey hstate hloc h := tableConsistent_buffer h he hkey hstate hloc
  finish _ _ _ _ _ _ _ hp h := tableConsistent_finishEntry hp h
  write _ _ _ h := tableConsistent_congr h rfl rfl fun _ => rfl
  restored _ _ _ h := tableConsistent_congr h rfl rfl fun _ => rfl
  degraded _ _ _ h := tableConsistent_congr h rfl rfl fun _ => rfl

/-! ## No step stops -/

theorem internal_answers (d : Due) (s : State) : ∃ t, internal d s = .next t := by
  unfold internal
  split <;> exact ⟨_, rfl⟩

/-- In a consistent state the entry of an access phase is there, with its location, so its completion takes a next
state. -/
theorem phaseCompletion_answers (a : LaneId) (ph : Phase)
    (f : PageName → ArrayLine → Entry → Location → State → State) {s : State} (h : s.tableConsistent) :
    ∃ t, phaseCompletion a ph f s = .next t := by
  rcases phaseCompletion_cases a ph f s with hc | ⟨_, _, _, _, -, hc⟩ | ⟨p, k, line, hl, hmissing, -⟩
  · exact ⟨_, hc⟩
  · exact ⟨_, hc⟩
  · obtain ⟨hkeys, -, hlanes⟩ := (State.tableConsistent_iff _).mp (tableConsistent_workInvariant.settle s h)
    obtain ⟨e, he, rfl, -, loc, hloc, -⟩ := hlanes a p k ph line hl
    rw [hmissing e (State.entry_eq_some hkeys he)] at hloc
    cases hloc

/-- No command stops the part in a consistent state. -/
theorem exec_answers (i : Instr) {s : State} (h : s.tableConsistent) : ∃ t, exec i s = .next t := by
  cases i with
  | readPhaseCompletion | writePhaseCompletion | writeBackPhaseCompletion => exact phaseCompletion_answers _ _ _ h
  | profileApplication | drainComplete | intReplyGrant | entryReplyGrant | closedReplyGrant | profileAppliedGrant
  | stcReplyGrant | noticeGrant => exact internal_answers _ s
  | _ => exact ⟨_, rfl⟩

/-- No step stops the part in a consistent state. -/
theorem step_answers {s : State} (h : s.tableConsistent) : ∃ t, step s = .next t := by
  unfold step
  split
  · exact ⟨_, rfl⟩
  · exact exec_answers _ (tableConsistent_congr h rfl rfl fun _ => rfl)

end Sys2Proof.Machine
end

section
/-!
PROOFS. The sessions stay consistent with the table and the class 1 list under every step (the second half of O59).
-/
namespace Sys2Proof.Machine

/-! ## Counts and windows -/

/-- The slots whose CLOSED reply waits in the class 1 list. -/
def State.closes (s : State) : List SlotId := s.waiting.filterMap Waiting.closes

theorem State.sessionsConsistent_iff (s : State) :
    s.sessionsConsistent ↔ (∀ k, s.entryCount k ≤ (s.slot k).window ∧ ((s.slot k).state = .free → (s.slot k).window = 0)) ∧
      s.windowSum ≤ 48 ∧ (∀ k ∈ s.closes, (s.slot k).state = .closing ∧ s.entryCount k = 0) ∧ s.closes.Nodup := Iff.rfl

/-- What a slot takes of the 48 places: its window, nothing when it is FREE (R97). -/
def Slot.charge (r : Slot) : Nat := if r.state = .free then 0 else r.window

theorem State.windowSum_eq (s : State) :
    s.windowSum = (s.slot 0).charge + (s.slot 1).charge + (s.slot 2).charge + (s.slot 3).charge := by
  simp [State.windowSum, allSlots, Slot.charge, Nat.add_assoc]

/-- The entry count of a slot is read off the keys of the table (R23, R98). -/
theorem State.entryCount_eq_countP (s : State) (k : SlotId) :
    s.entryCount k = (s.table.map (·.key)).countP (fun x => x.slot == k) := by
  rw [State.entryCount, List.countP_map, List.countP_eq_length_filter]
  rfl

theorem State.entryCount_of_keys {s t : State} (h : t.table.map (·.key) = s.table.map (·.key)) (k : SlotId) :
    t.entryCount k = s.entryCount k := by
  rw [State.entryCount_eq_countP, State.entryCount_eq_countP, h]

theorem State.entryCount_of_sublist {s t : State} (h : (t.table.map (·.key)).Sublist (s.table.map (·.key))) (k : SlotId) :
    t.entryCount k ≤ s.entryCount k := by
  rw [State.entryCount_eq_countP, State.entryCount_eq_countP]
  exact h.countP_le

theorem State.entryCount_ne_zero {s : State} {e : Entry} (he : e ∈ s.table) : s.entryCount e.key.slot ≠ 0 := by
  have : e ∈ s.table.filter (fun f => f.key.slot == e.key.slot) := List.mem_filter.mpr ⟨he, by simp⟩
  exact (List.length_pos_of_mem this).ne'

/-- A slot's record replaced: the windows' sum changes by that slot's share. -/
theorem State.windowSum_setSlot (s : State) (k : SlotId) (r : Slot) :
    (s.setSlot k r).windowSum + (s.slot k).charge = s.windowSum + r.charge := by
  simp only [State.windowSum_eq, State.setSlot_slot]
  fin_cases k <;> simp <;> omega

/-- A slot that a CLOSED reply waits for is CLOSING, so one in any other state is not waited for (R104). -/
theorem not_mem_closes_of_state {s : State} (h : s.sessionsConsistent) {k : SlotId} (hk : (s.slot k).state ≠ .closing) :
    k ∉ s.closes := by
  obtain ⟨-, -, hcloses, -⟩ := h
  exact fun hmem => hk (hcloses k hmem).1

theorem not_mem_closes_of_entry {s : State} (h : s.sessionsConsistent) {e : Entry} (he : e ∈ s.table) :
    e.key.slot ∉ s.closes := by
  obtain ⟨-, -, hcloses, -⟩ := h
  exact fun hmem => State.entryCount_ne_zero he (hcloses _ hmem).2

/-! ## Changes that keep the sessions consistent -/

/-- Entries may go as long as the slots and the CLOSED replies stay. -/
theorem sessionsConsistent_of_le {s t : State} (h : s.sessionsConsistent) (hslots : t.slots = s.slots)
    (hclosed : t.closes = s.closes) (hcount : ∀ k, t.entryCount k ≤ s.entryCount k) : t.sessionsConsistent := by
  obtain ⟨hwindow, hsum, hcloses, hnodup⟩ := s.sessionsConsistent_iff.mp h
  have hslot (k : SlotId) : t.slot k = s.slot k := by rw [State.slot, State.slot, hslots]
  refine t.sessionsConsistent_iff.mpr ⟨fun k => ?_, ?_, fun k hk => ?_, hclosed ▸ hnodup⟩
  · obtain ⟨hle, hfree⟩ := hwindow k
    rw [hslot]
    exact ⟨(hcount k).trans hle, hfree⟩
  · rw [State.windowSum_eq] at hsum ⊢
    simpa only [hslot] using hsum
  · obtain ⟨hclosing, hzero⟩ := hcloses k (hclosed ▸ hk)
    exact ⟨hslot k ▸ hclosing, Nat.le_zero.mp (hzero ▸ hcount k)⟩

theorem sessionsConsistent_of_keys {s t : State} (h : s.sessionsConsistent) (hslots : t.slots = s.slots)
    (hclosed : t.closes = s.closes) (hkeys : t.table.map (·.key) = s.table.map (·.key)) : t.sessionsConsistent :=
  sessionsConsistent_of_le h hslots hclosed fun k => (State.entryCount_of_keys hkeys k).le

/-- A slot that no CLOSED reply waits for takes another record within its own window and the pool. -/
theorem sessionsConsistent_setSlot {s : State} {k : SlotId} {r : Slot} (h : s.sessionsConsistent) (hk : k ∉ s.closes)
    (hcount : s.entryCount k ≤ r.window) (hfree : r.state = .free → r.window = 0)
    (hcharge : r.charge ≤ (s.slot k).charge + (48 - s.windowSum)) : (s.setSlot k r).sessionsConsistent := by
  obtain ⟨hwindow, hsum, hcloses, hnodup⟩ := h
  refine ⟨fun j => ?_, ?_, fun j hj => ?_, hnodup⟩
  · rw [State.setSlot_slot]
    split
    · next hj => exact ⟨hj ▸ hcount, hfree⟩
    · exact hwindow j
  · have := s.windowSum_setSlot k r
    omega
  · rw [State.setSlot_slot, if_neg (fun hjk : j = k => hk (hjk ▸ hj))]
    exact hcloses j hj

/-- A CLOSING slot without entries, none of whose CLOSED replies waits, produces one (R104). -/
theorem sessionsConsistent_closeIfDrained {s : State} {k : SlotId} (h : s.sessionsConsistent) (hk : k ∉ s.closes) :
    (closeIfDrained k s).sessionsConsistent := by
  rcases closeIfDrained_cases k s with ⟨hclosing, hzero, hc⟩ | ⟨-, hc⟩ <;> rw [hc]
  · obtain ⟨hwindow, hsum, hcloses, hnodup⟩ := h
    have hclosed : (produce (.closed k (s.slot k).discarded) s).waiting.filterMap Waiting.closes = s.closes ++ [k] := by
      simp [State.closes, Waiting.closes]
    refine ⟨hwindow, hsum, fun j hj => ?_, ?_⟩
    · rw [hclosed] at hj
      rcases List.mem_append.mp hj with hj | hj
      · exact hcloses j hj
      · obtain rfl := List.mem_singleton.mp hj
        exact ⟨hclosing, hzero⟩
    · rw [hclosed]
      exact List.nodup_append.mpr ⟨hnodup, List.nodup_singleton k, fun a ha b hb hab =>
        hk (List.mem_singleton.mp hb ▸ hab ▸ ha)⟩
  · exact h

theorem sessionsConsistent_countFell {s : State} {k : SlotId} (h : s.sessionsConsistent) (hk : k ∉ s.closes) :
    (countFell k s).sessionsConsistent := by
  unfold countFell
  split
  · next hd => exact sessionsConsistent_setSlot h hk hd.2.le (fun _ => rfl) (Nat.zero_le _)
  · exact sessionsConsistent_closeIfDrained h hk

/-- An entry of the table freed (R23, R98, R104, R108). -/
theorem sessionsConsistent_freeEntry {s : State} {e : Entry} (h : s.sessionsConsistent) (he : e ∈ s.table) :
    (freeEntry e.key s).sessionsConsistent :=
  sessionsConsistent_countFell
    (sessionsConsistent_of_le h rfl rfl (State.entryCount_of_sublist (List.filter_sublist.map _)))
    (not_mem_closes_of_entry h he)

theorem State.Decided.sessionsConsistent {s t : State} (d : s.Decided t) (h : s.sessionsConsistent) :
    t.sessionsConsistent :=
  sessionsConsistent_of_keys h (by rw [d.1]) (by rw [d.1]; rfl) d.2

/-- An entry that joins an OPEN slot with room (R115). -/
theorem sessionsConsistent_append {s : State} {e : Entry} (h : s.sessionsConsistent)
    (hopen : (s.slot e.key.slot).state = .opened) (hroom : s.entryCount e.key.slot < (s.slot e.key.slot).window) :
    ({ s with table := s.table ++ [e] } : State).sessionsConsistent := by
  have hcount (k : SlotId) : ({ s with table := s.table ++ [e] } : State).entryCount k =
      s.entryCount k + if e.key.slot = k then 1 else 0 := by
    simp [State.entryCount_eq_countP]
  obtain ⟨hwindow, hsum, hcloses, hnodup⟩ := h
  refine ⟨fun k => ⟨?_, (hwindow k).2⟩, hsum, fun k hk => ⟨(hcloses k hk).1, ?_⟩, hnodup⟩
  · rw [hcount]
    split
    · next hk => exact hk ▸ hroom
    · exact (hwindow k).1
  · rw [hcount, if_neg, (hcloses k hk).2]
    rintro rfl
    exact absurd (hopen.symm.trans (hcloses _ hk).1) (by decide)

/-- A slot closed that was OPEN keeps its window (R103). -/
theorem sessionsConsistent_closing {s : State} {k : SlotId} (h : s.sessionsConsistent) (hopen : (s.slot k).state = .opened)
    (n : Nat) : (s.setSlot k { s.slot k with state := .closing, discarded := n }).sessionsConsistent :=
  sessionsConsistent_setSlot h (not_mem_closes_of_state h (by simp [hopen])) (h.1 k).1 (fun hf => nomatch hf)
    (by simp [Slot.charge, hopen])

theorem sessionsConsistent_discardEntries {s : State} {k : SlotId} (h : s.sessionsConsistent)
    (hopen : (s.slot k).state = .opened) : (discardEntries k s).sessionsConsistent := by
  refine sessionsConsistent_closeIfDrained ?_ (not_mem_closes_of_state h (by simp [hopen]))
  refine sessionsConsistent_of_le (sessionsConsistent_closing h hopen _) rfl rfl (State.entryCount_of_sublist ?_)
  rw [completeFences_keys]
  exact List.filter_sublist.map _

/-- A session opened within the credit pool (R97, R100). -/
theorem sessionsConsistent_openSlot {s : State} {k : SlotId} (asked : Nat) (order : ReplyOrder)
    (h : s.sessionsConsistent) (hfree : (s.slot k).state = .free) : (openSlot k asked order s).sessionsConsistent := by
  refine sessionsConsistent_of_keys (sessionsConsistent_setSlot h (not_mem_closes_of_state h (by simp [hfree])) ?_
    (fun hf => by cases hf) ?_) rfl (quiet_reply _ _).closes rfl
  · obtain ⟨hle, hzero⟩ := h.1 k
    rw [hzero hfree] at hle
    exact hle.trans (Nat.zero_le _)
  · exact (min_le_right asked s.pool).trans (Nat.le_add_left _ _)

/-- The grant to a CLOSED reply makes its slot FREE (R105). -/
theorem sessionsConsistent_grantClosed {s : State} {k : SlotId} {n : Nat} {ws : List Waiting}
    (h : s.sessionsConsistent) (hw : s.waiting = .closed k n :: ws) :
    (({ s with waiting := ws } : State).setSlot k Slot.unused).sessionsConsistent := by
  obtain ⟨hwindow, hsum, hcloses, hnodup⟩ := h
  have hclosed : s.waiting.filterMap Waiting.closes = k :: ws.filterMap Waiting.closes := by
    rw [hw]
    rfl
  rw [hclosed] at hcloses hnodup
  refine sessionsConsistent_setSlot ⟨hwindow, hsum, fun j hj => hcloses j (List.mem_cons_of_mem k hj),
    (List.nodup_cons.mp hnodup).2⟩ (List.nodup_cons.mp hnodup).1 (hcloses k List.mem_cons_self).2.le (fun _ => rfl)
    (Nat.zero_le _)

/-! ## Resets -/

theorem Slot.linkReset_window_le (r : Slot) {n : Nat} (hn : n ≤ r.window) : n ≤ (r.linkReset n).window := by
  unfold Slot.linkReset
  split
  · exact hn
  · exact hn
  · split
    · exact hn
    · omega

theorem Slot.linkReset_free (r : Slot) (n : Nat) (h : r.state = .free → r.window = 0) :
    (r.linkReset n).state = .free → (r.linkReset n).window = 0 := by
  unfold Slot.linkReset
  split
  · exact h
  · exact h
  · split
    · exact fun hf => nomatch hf
    · exact fun _ => rfl

theorem Slot.linkReset_charge_le (r : Slot) (n : Nat) : (r.linkReset n).charge ≤ r.charge := by
  unfold Slot.linkReset
  split
  · exact le_rfl
  · exact le_rfl
  · next hfree _ =>
    split
    · have hne : r.state ≠ .free := hfree
      simp [Slot.charge, hne]
    · exact Nat.zero_le _

theorem linkResetBlocks_slot (s : State) (k : SlotId) :
    (linkResetBlocks s).slot k = (s.slot k).linkReset ((linkResetBlocks s).entryCount k) := by
  fin_cases k <;> rfl

/-- A link reset leaves every slot its window at most (R107). -/
theorem sessionsConsistent_linkReset {s : State} (h : s.sessionsConsistent) : (linkResetBlocks s).sessionsConsistent := by
  obtain ⟨hwindow, hsum, -, -⟩ := h
  have hcount (k : SlotId) : (linkResetBlocks s).entryCount k ≤ (s.slot k).window :=
    (State.entryCount_of_sublist (linkResetBlocks_keys_sublist s) k).trans (hwindow k).1
  refine ⟨fun k => ?_, ?_, fun k hk => absurd hk List.not_mem_nil, List.nodup_nil⟩
  · rw [linkResetBlocks_slot]
    exact ⟨Slot.linkReset_window_le _ (hcount k), Slot.linkReset_free _ _ (hwindow k).2⟩
  · rw [State.windowSum_eq] at hsum ⊢
    have hcharge (k : SlotId) : ((linkResetBlocks s).slot k).charge ≤ (s.slot k).charge := by
      rw [linkResetBlocks_slot]
      exact Slot.linkReset_charge_le _ _
    have h0 := hcharge 0
    have h1 := hcharge 1
    have h2 := hcharge 2
    have h3 := hcharge 3
    omega

/-- After reset no slot is in use (R96). -/
theorem sessionsConsistent_of_reset {s : State} (htable : s.table = []) (hwaiting : s.waiting = [])
    (hslots : s.slots = Four.replicate Slot.unused) : s.sessionsConsistent := by
  have hslot (k : SlotId) : s.slot k = Slot.unused := by rw [State.slot, hslots, Four.get_replicate]
  have hcount (k : SlotId) : s.entryCount k = 0 := by rw [State.entryCount, htable]; rfl
  refine ⟨fun k => ?_, ?_, by simp [hwaiting], by simp [hwaiting]⟩
  · rw [hslot, hcount]
    exact ⟨le_rfl, fun _ => rfl⟩
  · simp only [State.windowSum_eq, hslot]
    decide

/-! ## The invariant -/

theorem sessionsConsistent_finishEntry {s : State} {a : LaneId} {ph : Phase} {p : PageName} {line : ArrayLine} {e : Entry}
    {loc : Location} (hp : s.Performs a ph p line e loc) (h : s.sessionsConsistent) :
    (finishEntry e (s.setLaneState a (.held p))).sessionsConsistent := by
  have hheld : (s.setLaneState a (.held p)).sessionsConsistent := sessionsConsistent_of_keys h rfl rfl rfl
  unfold finishEntry
  split
  · exact sessionsConsistent_freeEntry hheld (State.mem_of_entry hp.entry)
  · exact sessionsConsistent_of_keys hheld rfl rfl
      (decided_onEntry e.key (fun f => { f with state := .replyWait, outcome := some (statusOf e.found) }) (fun _ => rfl)
        (s.setLaneState a (.held p))).2

theorem sessionsConsistent_grantEntry : Keeps State.sessionsConsistent grantEntry := fun s h => by
  unfold grantEntry
  split
  · exact h
  · next e he => exact sessionsConsistent_freeEntry (sessionsConsistent_of_keys h rfl rfl rfl) (candidate_eq_some he).1

/-- Consistent sessions withstand every change that the commands make. -/
theorem sessionsConsistent_workInvariant : WorkInvariant State.sessionsConsistent where
  quiet h q := sessionsConsistent_of_keys h q.slots q.closes (by rw [q.table])
  decide a s h := (decided_decideLane s a).sessionsConsistent h
  fences check s h := sessionsConsistent_of_keys h rfl rfl (completeFences_keys check s)
  release active s h := by
    refine sessionsConsistent_of_keys h rfl rfl ?_
    simp only [releaseAll, List.map_map]
    refine List.map_congr_left fun e _ => ?_
    dsimp only [Function.comp]
    split
    · exact releaseEntry_key active e
    · rfl
  accept key kind s hopen hroom _ h := by
    refine sessionsConsistent_append h ?_ ?_ <;> rwa [acceptedEntry_key]
  openSlot _ asked order _ hfree h := sessionsConsistent_openSlot asked order h hfree
  close k s hopen h := sessionsConsistent_closeIfDrained
    (sessionsConsistent_of_keys (sessionsConsistent_closing h hopen 0) rfl rfl rfl)
    (not_mem_closes_of_state h (by simp [hopen]))
  discard _ _ hopen h := sessionsConsistent_discardEntries h hopen
  grantClosed _ _ _ _ hw h := sessionsConsistent_grantClosed h hw
  grantEntry := sessionsConsistent_grantEntry
  linkReset _ h := sessionsConsistent_linkReset h
  fullReset _ _ := sessionsConsistent_of_reset rfl rfl rfl
  powerLost _ _ := sessionsConsistent_of_reset rfl rfl rfl
  initialized _ h := sessionsConsistent_of_keys h rfl rfl rfl
  idle _ _ _ _ h := sessionsConsistent_of_keys h rfl rfl rfl
  nextPhase _ _ _ _ _ _ _ _ _ h := sessionsConsistent_of_keys h rfl rfl rfl
  buffer e e' s _ hkey _ _ h := by
    refine sessionsConsistent_of_keys h rfl rfl ?_
    simp only [State.onEntry_table, List.map_map]
    refine List.map_congr_left fun f _ => ?_
    dsimp only [Function.comp]
    split
    · next hf => exact hkey.trans hf.symm
    · rfl
  finish _ _ _ _ _ _ _ hp h := sessionsConsistent_finishEntry hp h
  write _ _ _ h := sessionsConsistent_of_keys h rfl rfl rfl
  restored _ _ _ h := sessionsConsistent_of_keys h rfl rfl rfl
  degraded _ _ _ h := sessionsConsistent_of_keys h rfl rfl rfl

/-- Settles O59: both invariants withstand every change that the commands make, and in a consistent state no completion
misses its entry. -/
theorem everyStepKeepsTableAndSessionsAndNoneStops : Obligations.EveryStepKeepsTableAndSessionsAndNoneStops := by
  refine ⟨fun s h => ?_, fun s t _ h ht => sessionsConsistent_workInvariant.step h t ht⟩
  obtain ⟨t, ht⟩ := step_answers h
  exact ⟨t, ht, tableConsistent_workInvariant.step h t ht⟩

end Sys2Proof.Machine
end

section
/-!
PROOFS. The array: lines that do not overlap, a line written and read back, lines spoilt by a full reset, degradation and
restoration (O40, O25, O56, O49).
-/
namespace Sys2Proof.Machine

/-! ## Lines and pages that differ lie apart -/

theorem Location.eq_of_val {l m : Location} (hlane : l.lane.val = m.lane.val) (hpage : l.page.val = m.page.val)
    (hline : l.line.val = m.line.val) : l = m := by
  cases l
  cases m
  simp only [Location.mk.injEq]
  exact ⟨Fin.ext hlane, Fin.ext hpage, Fin.ext hline⟩

theorem lineNumber_injective : Function.Injective lineNumber := by
  intro l j h
  cases l with
  | host l =>
    have := l.page.isLt
    have := l.line.isLt
    have := l.lane.isLt
    cases j with
    | host m =>
      have := m.page.isLt
      have := m.line.isLt
      simp only [lineNumber] at h
      exact congrArg ArrayLine.host (Location.eq_of_val (by omega) (by omega) (by omega))
    | spare b i =>
      simp only [lineNumber] at h
      omega
  | spare a i =>
    have := i.isLt
    cases j with
    | host m =>
      have := m.page.isLt
      have := m.line.isLt
      have := m.lane.isLt
      simp only [lineNumber] at h
      omega
    | spare b j =>
      have := j.isLt
      simp only [lineNumber] at h
      obtain rfl : a = b := Fin.ext (by omega)
      obtain rfl : i = j := Fin.ext (by omega)
      rfl

/-- Two lines share no byte of the array. -/
theorem lineBase_apart {j l : ArrayLine} (h : j ≠ l) : lineBase j + 64 ≤ lineBase l ∨ lineBase l + 64 ≤ lineBase j := by
  have := lineNumber_injective.ne h
  unfold lineBase
  omega

theorem pageKey_inj {a b : LaneId} {p q : PageName} (h : pageKey b q = pageKey a p) : b = a ∧ q = p := by
  cases p with
  | page p =>
    have := p.isLt
    cases q with
    | page q =>
      have := q.isLt
      simp only [pageKey] at h
      exact ⟨Fin.ext (by omega), congrArg PageName.page (Fin.ext (by omega))⟩
    | spareRow =>
      simp only [pageKey] at h
      omega
  | spareRow =>
    cases q with
    | page q =>
      have := q.isLt
      simp only [pageKey] at h
      omega
    | spareRow =>
      simp only [pageKey] at h
      exact ⟨Fin.ext (by omega), rfl⟩

/-! ## Bytes and levels after a change of one line -/

/-- Bytes put over a line leave every byte outside it alone. -/
theorem Storage.byte_putLine_other (m : Storage) (l : ArrayLine) {bs : List Byte} (damage : List (Nat × Damage))
    {address : Nat} (hlen : bs.length ≤ 64) (h : address < lineBase l ∨ lineBase l + 64 ≤ address) :
    ({ m with cells := putBytes m.cells (lineBase l) bs, damage := damage } : Storage).byte address = m.byte address := by
  unfold Storage.byte
  dsimp only
  split
  · exact get_putBytes_other address bs m.cells (lineBase l) (by omega)
  · rfl

/-- A level put for a line leaves the level of every other line alone. -/
theorem Storage.level_put_other (m : Storage) (cells : List Host.Cell) {j l : ArrayLine} (level : Damage) (h : j ≠ l) :
    ({ m with cells := cells, damage := Sparse.put .intact m.damage (lineNumber l) level } : Storage).level j =
      m.level j := by
  unfold Storage.level
  dsimp only
  split
  · exact Sparse.get_put_other _ _ _ _ (lineNumber_injective.ne h) _
  · rfl

/-- A level put for a line of an array with defined content is that line's level. -/
theorem Storage.level_put_same (m : Storage) (cells : List Host.Cell) (l : ArrayLine) (level : Damage)
    (hd : m.undefinedDraw = none) (hwf : Sparse.wf Damage.intact m.damage = true) :
    ({ m with cells := cells, damage := Sparse.put .intact m.damage (lineNumber l) level } : Storage).level l = level := by
  unfold Storage.level
  simp only [hd]
  exact Sparse.get_put_of_wf _ _ _ _ hwf

theorem Storage.write_byte_other (m : Storage) (l : ArrayLine) (bytes : List Byte) {address : Nat}
    (h : address < lineBase l ∨ lineBase l + 64 ≤ address) : (m.write l bytes).byte address = m.byte address :=
  m.byte_putLine_other l _ (List.length_take_le 64 bytes) h

theorem Storage.write_byte_same (m : Storage) (l : ArrayLine) {bytes : List Byte} {i : Nat}
    (hd : m.undefinedDraw = none) (hwf : Sparse.wf 0#8 m.cells = true) (hlen : bytes.length = 64) (hi : i < 64) :
    (m.write l bytes).byte (lineBase l + i) = bytes.getD i 0#8 := by
  have htake : bytes.take 64 = bytes := List.take_of_length_le hlen.le
  unfold Storage.write Storage.byte
  simp only [hd, htake]
  exact get_putBytes_same bytes m.cells (lineBase l) i hwf (hlen ▸ hi)

/-- A line reads the same in two arrays that agree on its bytes. -/
theorem Storage.line_congr {m n : Storage} {l : ArrayLine}
    (h : ∀ i, i < 64 → m.byte (lineBase l + i) = n.byte (lineBase l + i)) : m.line l = n.line l :=
  List.map_congr_left fun i hi => h i (List.mem_range.mp hi)

/-- A line written with 64 bytes is read back (R1, R13). -/
theorem Storage.write_line_same (m : Storage) (l : ArrayLine) {bytes : List Byte} (hd : m.undefinedDraw = none)
    (hwf : Sparse.wf 0#8 m.cells = true) (hlen : bytes.length = 64) : (m.write l bytes).line l = bytes := by
  refine List.ext_getElem (by simp [Storage.line, hlen]) fun i _ hi => ?_
  simp only [Storage.line, List.getElem_map, List.getElem_range]
  rw [Storage.write_byte_same m l hd hwf hlen (hlen ▸ hi), List.getD_eq_getElem _ _ hi]

theorem Storage.write_line_other (m : Storage) {j l : ArrayLine} (bytes : List Byte) (h : j ≠ l) :
    (m.write l bytes).line j = m.line j :=
  Storage.line_congr fun i hi => m.write_byte_other l bytes (by have := lineBase_apart h; omega)

theorem Storage.step_line (m : Storage) (a : LaneId) (p : Fin 16384) (l : ArrayLine) : (m.step a p).line l = m.line l :=
  Storage.line_congr fun _ _ => m.step_byte a p _

/-- A restoration step touches the restoration times only (R16). -/
theorem Storage.step_eq (m : Storage) (a : LaneId) (p : Fin 16384) :
    m.step a p = { m with restoredAt := (m.step a p).restoredAt } := by
  unfold Storage.step
  extract_lets n
  split <;> rfl

theorem Storage.step_level (m : Storage) (a : LaneId) (p : Fin 16384) (l : ArrayLine) :
    (m.step a p).level l = m.level l := by
  rw [Storage.step_eq]
  rfl

theorem Storage.initialized_line (l : ArrayLine) : Storage.initialized.line l = List.replicate 64 0#8 :=
  List.ext_getElem (by simp [Storage.line]) fun i _ _ => by simp [Storage.line, Storage.byte, Storage.initialized, Sparse.get]

/-- Settles O40: lines lie apart, and the sparse tables read back what is put. -/
theorem linesWrittenReadBackAndLeaveTheOthers : Obligations.LinesWrittenReadBackAndLeaveTheOthers := by
  refine ⟨fun m l bytes hd hcells hdamage hlen => ⟨?_, ?_, fun j hj => ⟨?_, ?_⟩⟩, fun m a p l => ⟨?_, ?_⟩,
    fun l => ⟨Storage.initialized_line l, rfl⟩⟩
  · exact m.write_line_same l hd hcells hlen
  · exact m.level_put_same _ l .intact hd hdamage
  · exact m.write_line_other bytes hj
  · exact m.level_put_other _ .intact hj
  · exact m.step_line a p l
  · exact m.step_level a p l

/-! ## Full reset (R18) -/

theorem spoilLanes_of_none {s : State} (h : ∀ a, (s.lane a).state.writing = none) :
    ∀ (lanes : List LaneId) (t : State), spoilLanes s lanes t = t
  | [], _ => rfl
  | a :: lanes, t => by
    unfold spoilLanes
    rw [List.foldl_cons, h a]
    exact spoilLanes_of_none h lanes t

/-- Settles O25: each spoilt line changes its own 64 bytes and its own level. -/
theorem interruptedWritesSpoilTheirOwnLineOnly : Obligations.InterruptedWritesSpoilTheirOwnLineOnly := by
  intro s
  rw [spoilWrites_eq]
  refine ⟨fun h => spoilLanes_of_none h allLanes s, fun address haddress => ?_, fun line hline => ?_⟩
  · refine spoilLanes_induction (P := fun t => t.array.byte address = s.array.byte address)
      (fun a l t hl ht => ?_) allLanes s rfl
    exact (t.array.byte_putLine_other l _ (by simp) (haddress a l hl)).trans ht
  · refine spoilLanes_induction (P := fun t => t.array.level line = s.array.level line)
      (fun a l t hl ht => ?_) allLanes s rfl
    have hne : line ≠ l := fun h => hline a (h ▸ hl)
    exact (t.array.level_put_other _ _ hne).trans ht

/-! ## Degradation (R19) -/

/-- The order of the damage levels. -/
def damageRank : Damage → Nat
  | .intact => 0
  | .correctable => 1
  | .uncorrectable => 2

theorem rises_iff_damageRank (d e : Damage) : rises d e = true ↔ damageRank d < damageRank e := by
  cases d <;> cases e <;> decide

/-- The time since the restoration of a line's page, up to the end of a period in progress (R19, log entry 8). -/
def State.sinceRestored (s : State) (line : ArrayLine) (period : Period) : Nat :=
  s.array.elapsed + period.tenths - s.array.restoredTime (linePage line).1 (linePage line).2

theorem overdue_of_stopped {s : State} (h : s.rst.timer = none) (line : ArrayLine) (temperature : Int) :
    s.overdue line temperature = false := by
  simp [State.overdue, h]

theorem overdue_iff {s : State} {period : Period} (h : s.rst.timer = some period) (line : ArrayLine) (temperature : Int) :
    s.overdue line temperature = true ↔ retention temperature < s.sinceRestored line period := by
  simp [State.overdue, h, State.sinceRestored]

/-- A line within its rating, or a level that is no rise, leaves the state as it is. -/
theorem degrade_of_not {line : ArrayLine} {level : Damage} {temperature : Int} {s : State}
    (h : ¬ (s.overdue line temperature = true ∧ rises (s.array.level line) level = true)) :
    degrade line level temperature s = s := if_neg (by simpa using h)

theorem exec_lineDegradation {line : ArrayLine} {level : Damage} {temperature : Int} {s : State} (hs : s.settled)
    (hr : s.running = true) :
    exec (.lineDegradation line level temperature) s = .next (kick (degrade line level temperature s)) :=
  event_whileRunning hs hr _

/-- Settles O56: a degradation is taken only beyond the rating and only upward, and puts one level. -/
theorem linesDegradeOnlyBeyondTheirRating : Obligations.LinesDegradeOnlyBeyondTheirRating := by
  intro line level temperature s hs hr c since rating rank
  have hc : c = .next (kick (degrade line level temperature s)) := exec_lineDegradation hs hr
  have hsince (period : Period) : since period = s.sinceRestored line period := by cases period <;> rfl
  have hrank (d : Damage) : rank d = damageRank d := by cases d <;> rfl
  have hrating : rating = retention temperature := rfl
  have hnothing (h : ¬ (s.overdue line temperature = true ∧ rises (s.array.level line) level = true)) : c = .next s := by
    rw [hc, degrade_of_not h, hs.1]
  refine ⟨fun htimer => hnothing (by simp [overdue_of_stopped htimer]), fun period htimer => ⟨fun h => ?_, ?_⟩⟩
  · refine hnothing ?_
    rw [overdue_iff htimer, rises_iff_damageRank]
    rw [hsince, hrating, hrank, hrank] at h
    omega
  · intro hover hrise hd hwf
    have htaken : degrade line level temperature s = { s with
        array := { s.array with damage := Sparse.put .intact s.array.damage (lineNumber line) level } } := by
      refine if_pos (Bool.and_eq_true_iff.mpr ⟨(overdue_iff htimer line temperature).mpr ?_,
        (rises_iff_damageRank _ _).mpr ?_⟩)
      · rwa [← hsince, ← hrating]
      · rwa [← hrank, ← hrank]
    have hkick : kick (degrade line level temperature s) = degrade line level temperature s :=
      kick_of_kick hs.1 (by rw [htaken]) (by rw [htaken])
    rw [hc, hkick, htaken]
    refine ⟨_, rfl, fun t ht => ?_⟩
    obtain rfl := Host.Outcome.next.inj ht
    exact ⟨s.array.level_put_same _ line level hd hwf, fun j hj => s.array.level_put_other _ level hj⟩

/-! ## Restoration (R16) -/

/-- A page restored now has the present as its restoration time, every other page keeps its own. -/
theorem Storage.restoredTime_restore (m : Storage) (a b : LaneId) (p q : PageName) (hwf : Sparse.wf 0 m.restoredAt = true) :
    (m.restore a p).restoredTime b q = if b = a ∧ q = p then m.elapsed else m.restoredTime b q := by
  unfold Storage.restoredTime Storage.restore
  split
  · next h => rw [h.1, h.2]; exact Sparse.get_put_of_wf _ _ _ _ hwf
  · next h => exact Sparse.get_put_other _ _ _ _ (fun hk => h (pageKey_inj hk)) _

theorem Storage.restore_elapsed (m : Storage) (a : LaneId) (p : PageName) : (m.restore a p).elapsed = m.elapsed := rfl

/-- What a step renews: two pages, and the spare row at pointer 0 (R16). -/
theorem Storage.restoredTime_step (m : Storage) (a b : LaneId) (p : Fin 16384) (q : PageName)
    (hwf : Sparse.wf 0 m.restoredAt = true) :
    (m.step a p).restoredTime b q =
      if b = a ∧ (q = .page p ∨ q = .page (p + 1) ∨ (q = .spareRow ∧ p = 0)) then m.elapsed
      else m.restoredTime b q := by
  have hwf₁ : Sparse.wf 0 (m.restore a (.page p)).restoredAt = true := Sparse.put_wf _ _ _ _ hwf
  have hwf₂ : Sparse.wf 0 ((m.restore a (.page p)).restore a (.page (p + 1))).restoredAt = true :=
    Sparse.put_wf _ _ _ _ hwf₁
  have hpages : ((m.restore a (.page p)).restore a (.page (p + 1))).restoredTime b q =
      if b = a ∧ (q = .page p ∨ q = .page (p + 1)) then m.elapsed else m.restoredTime b q := by
    rw [Storage.restoredTime_restore _ _ _ _ _ hwf₁, Storage.restoredTime_restore _ _ _ _ _ hwf, Storage.restore_elapsed]
    split_ifs <;> tauto
  unfold Storage.step
  dsimp only
  split
  · next hp =>
    rw [Storage.restoredTime_restore _ _ _ _ _ hwf₂, hpages, Storage.restore_elapsed, Storage.restore_elapsed]
    split_ifs <;> tauto
  · next hp =>
    rw [hpages]
    simp only [hp, and_false, or_false]

theorem clearLevel_eq (deferral : Nat) : clearLevel deferral = max ((deferral : Int) - 3) 0 := by
  unfold clearLevel
  omega

/-- The deferral limit in force: 6 before the first profile (R132). -/
theorem deferral_eq (s : State) :
    (s.deferral : Int) = match s.prf.active with | none => 6 | some p => (p.deferral : Int) := by
  unfold State.deferral
  cases s.prf.active <;> rfl

theorem stepCompletes_of_restoring {a : LaneId} {s : State} (h : (s.lane a).state = .restoring) :
    stepCompletes a s = decideLane
      (State.setLane { s with array := s.array.step a (s.lane a).pointer } a ((s.lane a).stepDone s.deferral)) a := by
  unfold stepCompletes
  simp only [h]

theorem stepCompletes_of_not_restoring {a : LaneId} {s : State} (h : (s.lane a).state ≠ .restoring) :
    stepCompletes a s = s := by
  unfold stepCompletes
  split
  · next hr => exact absurd hr h
  · rfl

/-- An event that does nothing in a settled state leaves it as it is, running or not. -/
theorem event_whileRunning_of_eq {s : State} (hs : s.settled) {f : State → State} (h : f s = s) :
    event (whileRunning f) s = .next s := by
  rw [event_of_settled hs]
  unfold whileRunning
  split
  · rw [h, hs.1]
  · rw [hs.1]

/-- Settles O49: RST's account of a step is `Lane.stepDone`, and the pages renewed are those of `Storage.step`. -/
theorem restorationStepPaysTheDebt : Obligations.RestorationStepPaysTheDebt := by
  refine ⟨fun a s hs hr hl => ?_, fun a s hs hl => event_whileRunning_of_eq hs (stepCompletes_of_not_restoring hl),
    fun m a b p q hwf => m.restoredTime_step a b p q hwf⟩
  intro l limit
  have hlimit : (s.deferral : Int) = limit := deferral_eq s
  refine ⟨l.pointer + 2, rfl, ?_⟩
  change event (whileRunning (stepCompletes a)) s = _
  rw [event_whileRunning hs hr, stepCompletes_of_restoring hl, Lane.stepDone, clearLevel_eq, hlimit]

end Sys2Proof.Machine
end

section
/-!
PROOFS. The completions of a lane's operations (O45, O46, O43).
-/
namespace Sys2Proof.Machine

/-! ## Phases -/

/-- In a settled state of a running part a phase that a lane performs completes as the command of its kind says. -/
theorem phaseCompletion_of_performs {a : LaneId} {ph : Phase} {p : PageName} {line : ArrayLine} {e : Entry}
    {loc : Location} {s : State} (hs : s.settled) (hr : s.running = true) (hp : s.Performs a ph p line e loc)
    (f : PageName → ArrayLine → Entry → Location → State → State) :
    phaseCompletion a ph f s = .next (kick (f p line e loc s)) := by
  unfold phaseCompletion
  simp only [settle_of_settled hs, hr, hp.phase, hp.entry, hp.location, Bool.not_true, Bool.false_eq_true, if_false,
    if_true]

/-- An offer to the suspect list changes ITG and SNU only (R83). -/
theorem offerSuspect_eq (loc : Location) (spare : Option SpareId) (s : State) :
    offerSuspect loc spare s =
      { s with itg := (offerSuspect loc spare s).itg, snu := (offerSuspect loc spare s).snu } := by
  rcases offerSuspect_cases loc spare s with ⟨-, h⟩ | ⟨-, -, h⟩ | ⟨-, -, h⟩ <;> rw [h]
  · rw [postNotice_eq]
  · rw [postNotice_eq]

/-- A read outcome is handled with no change of the profile (R78). -/
theorem afterRead_prf (line : ArrayLine) (e : Entry) (loc : Location) (s : State) :
    (afterRead line e loc s).prf = s.prf := by
  unfold afterRead handleOutcome
  split
  · rfl
  · rfl
  · rw [offerSuspect_eq]
    rfl

theorem afterRead_writeBackOn (line : ArrayLine) (e : Entry) (loc : Location) (s : State) :
    (afterRead line e loc s).writeBackOn = s.writeBackOn := by
  rw [State.writeBackOn, State.writeBackOn, afterRead_prf]

/-- Settles O45, by the damage level of the line and the kind of the entry. -/
theorem readPhaseFillsTheBufferAndGoesOnOrEnds : Obligations.ReadPhaseFillsTheBufferAndGoesOnOrEnds := by
  intro a p line e loc s hs hr hphase hentry hloc hlane o
  have ho : outcomeOf (s.array.level line) = o := by
    unfold o
    cases s.array.level line <;> rfl
  refine ⟨s.readBuffer line o, fun hne => ?_, ?_⟩
  · cases hlevel : o with
    | lost => exact absurd hlevel hne
    | _ => rfl
  · intro e' t u goesOn
    have hread : readEntry line e s = e' := by rw [readEntry, ho]
    have hafter : afterRead line e loc s = u := by
      rw [afterRead, hread, ho]
      subst hlane
      unfold u handleOutcome
      cases o with
      | clean => rfl
      | corrected => rfl
      | lost => cases line <;> rfl
    have hnext : followingPhase s.writeBackOn e.kind o = goesOn := by
      unfold goesOn
      cases e.kind <;> cases o <;> rfl
    have hcompletes : exec (.readPhaseCompletion a) s = .next (kick (readCompletes a p line e loc s)) :=
      phaseCompletion_of_performs hs hr ⟨hphase, hentry, hloc⟩ _
    clear_value goesOn
    cases goesOn with
    | none => rw [hcompletes, readCompletes_eq, afterRead_writeBackOn, hafter, hread, ho, hnext]
    | some ph => rw [hcompletes, readCompletes_eq, afterRead_writeBackOn, hafter, hread, ho, hnext]

/-- The array that the end of the array work leaves is the one stored into; its bytes outside the line are as before. -/
theorem stores_line {a : LaneId} {p : PageName} {line : ArrayLine} {e : Entry} {s : State} (bytes : List Byte)
    {c : Host.Outcome State Fault Refusal}
    (hc : c = .next (kick (endWork a p e { s with array := s.array.write line bytes }))) (t : State) (ht : c = .next t) :
    t.array = s.array.write line bytes ∧
      ∀ address : Nat, address < lineBase line ∨ lineBase line + 64 ≤ address →
        t.array.byte address = s.array.byte address := by
  obtain rfl := Host.Outcome.next.inj (hc.symm.trans ht)
  have harray : (kick (endWork a p e { s with array := s.array.write line bytes })).array = s.array.write line bytes := by
    rw [kick_array, endWork_array]
  exact ⟨harray, fun address h => by rw [harray, Storage.write_byte_other _ _ _ h]⟩

theorem mergeBytes_length (mask data kept : List Byte) : (mergeBytes mask data kept).length = 64 := by simp [mergeBytes]

/-- Byte b of a merge is the carried one where its enable is set, the kept one where it is clear (R13, R183). -/
theorem mergeBytes_getElem? (mask data kept : List Byte) {b : Nat} (hb : b < 64) :
    (mergeBytes mask data kept)[b]? = some
      (if (byteAt mask (b / 8)).getLsbD (b % 8) then byteAt data b else byteAt kept b) := by
  simp [mergeBytes, hb, maskEnable]

/-- Settles O46: each kind of phase stores its bytes, and the end of the array work leaves the array alone. -/
theorem writePhasesStoreTheLineAndEndTheWork : Obligations.WritePhasesStoreTheLineAndEndTheWork := by
  intro a p ph line e loc s hs hr hphase hentry hloc c stores
  have hp : s.Performs a ph p line e loc := ⟨hphase, hentry, hloc⟩
  have hstores (bytes : List Byte)
      (hc : exec c s = .next (kick (endWork a p e { s with array := s.array.write line bytes }))) : stores bytes :=
    ⟨hc, stores_line bytes hc⟩
  refine ⟨fun address data hph hkind => ?_, fun address mask data buffer hph hkind hbuffer => ?_,
    fun buffer hph hbuffer => ?_⟩
  · subst hph
    refine hstores data ?_
    change phaseCompletion a .write (fun p line e _ => writeCompletes a p line e) s = _
    rw [phaseCompletion_of_performs hs hr hp, writeCompletes, Entry.written, hkind]
  · subst hph
    refine ⟨mergeBytes mask data buffer, mergeBytes_length mask data buffer, hstores _ ?_,
      fun b hb => mergeBytes_getElem? mask data buffer hb⟩
    change phaseCompletion a .write (fun p line e _ => writeCompletes a p line e) s = _
    rw [phaseCompletion_of_performs hs hr hp, writeCompletes, Entry.written, hkind, hbuffer, Option.getD_some]
  · subst hph
    refine hstores buffer ?_
    change phaseCompletion a .writeBack (fun p line e _ => writeBackCompletes a p line e) s = _
    rw [phaseCompletion_of_performs hs hr hp, writeBackCompletes, hbuffer, Option.getD_some]

/-! ## Page open and close -/

theorem openCompletes_of_opening {a : LaneId} {p : PageName} {s : State} (h : (s.lane a).state = .opening p) :
    openCompletes a s = decideLane (s.setLaneState a (.held p)) a := by
  unfold openCompletes
  rw [h]

theorem openCompletes_of_not_opening {a : LaneId} {s : State} (h : ∀ p, (s.lane a).state ≠ .opening p) :
    openCompletes a s = s := by
  unfold openCompletes
  split
  · next p hp => exact absurd hp (h p)
  · rfl

theorem closeCompletes_of_closing {a : LaneId} {p : PageName} {s : State} (h : (s.lane a).state = .closing p) :
    closeCompletes a s = decideLane (s.setLaneState a .closed) a := by
  unfold closeCompletes
  rw [h]

theorem closeCompletes_of_not_closing {a : LaneId} {s : State} (h : ∀ p, (s.lane a).state ≠ .closing p) :
    closeCompletes a s = s := by
  unfold closeCompletes
  split
  · next p hp => exact absurd hp (h p)
  · rfl

/-! ## What each action of a decision begins -/

theorem act_serve {a : LaneId} {p : PageName} {s : State} (h : (s.lane a).state = .held p) (k : EntryKey)
    (passed : List EntryKey) : act a (.serve k passed) s = serve a p k passed s := by
  simp only [act, h]

theorem act_openPage {a : LaneId} {s : State} (h : (s.lane a).state = .closed) (p : PageName) :
    act a (.openPage p) s = s.setLaneState a (.opening p) := by
  simp only [act, h]

theorem act_close {a : LaneId} {p : PageName} {s : State} (h : (s.lane a).state = .held p) :
    act a .close s = s.setLaneState a (.closing p) := by
  simp only [act, h]

theorem act_restore {a : LaneId} {s : State} (h : (s.lane a).state = .closed) :
    act a .restore s = s.setLaneState a .restoring := by
  simp only [act, h]

theorem act_stay (a : LaneId) (s : State) : act a .stay s = s := by
  simp only [act]

/-- In HELD a lane serves, closes or stays (R50 to R54). -/
theorem decideHeld_cases (s : State) (a : LaneId) (p : PageName) :
    (∃ k passed, s.decideHeld a p = .serve k passed) ∨ s.decideHeld a p = .close ∨ s.decideHeld a p = .stay := by
  unfold State.decideHeld
  split
  · split
    · exact Or.inr (Or.inl rfl)
    · exact Or.inr (Or.inr rfl)
  · split
    · exact Or.inl ⟨_, _, rfl⟩
    · split
      · exact Or.inr (Or.inl rfl)
      · split
        · exact Or.inl ⟨_, _, rfl⟩
        · exact Or.inr (Or.inl rfl)

/-- Only a CLOSED lane opens a page or restores (R10, R16). -/
theorem closed_of_decision {s : State} {a : LaneId}
    (h : (∃ p, s.decision a = .openPage p) ∨ s.decision a = .restore) : (s.lane a).state = .closed := by
  unfold State.decision at h
  split at h
  · next p _ =>
    split at h
    · simp at h
    · rcases decideHeld_cases s a p with ⟨k, passed, hd⟩ | hd | hd <;> simp [hd] at h
  · next hc => exact hc
  · simp at h

/-- Settles O43: the two completions decide, and each action begins what `act` says of the lane's state. -/
theorem openAndCloseCompletionsDecideAgain : Obligations.OpenAndCloseCompletionsDecideAgain := by
  refine ⟨fun a s hs hr => ⟨fun p h => ?_, fun p h => ?_, fun h => ?_, fun h => ?_⟩,
    fun a s => ⟨fun p e passed hheld hd => ?_, fun p hd => ?_, fun p hheld hd => ?_, fun hd => ?_, fun hd => ?_⟩⟩
  · change event (whileRunning (openCompletes a)) s = _
    rw [event_whileRunning hs hr, openCompletes_of_opening h]
  · change event (whileRunning (closeCompletes a)) s = _
    rw [event_whileRunning hs hr, closeCompletes_of_closing h]
  · exact event_whileRunning_of_eq hs (openCompletes_of_not_opening h)
  · exact event_whileRunning_of_eq hs (closeCompletes_of_not_closing h)
  · rw [decideLane, hd, act_serve hheld]
  · rw [decideLane, hd, act_openPage (closed_of_decision (Or.inl ⟨p, hd⟩))]
  · rw [decideLane, hd, act_close hheld]
  · rw [decideLane, hd, act_restore (closed_of_decision (Or.inr hd))]
  · rw [decideLane, hd, act_stay]

end Sys2Proof.Machine
end

section
/-!
PROOFS. The state after reset and the address maps (O4, O5, O6).
-/
namespace Sys2Proof.Machine

/-! ## Reset -/

@[simp] theorem reset_lane (a : LaneId) : State.reset.lane a = Lane.reset := Eight.get_replicate _ a

@[simp] theorem reset_slot (k : SlotId) : State.reset.slot k = Slot.unused := Four.get_replicate _ k

/-- Settles O4: every lane and every slot has its reset record, the other blocks are read off the state. -/
theorem resetValues : Obligations.ResetValues := by
  refine ⟨fun a => ?_, fun k => ?_, by decide, rfl, rfl, rfl, rfl, rfl, rfl, rfl, rfl, rfl, rfl, rfl, rfl, rfl, rfl, rfl,
    rfl, rfl, rfl, rfl, rfl, rfl, rfl, rfl, rfl⟩
  · rw [reset_lane]
    exact ⟨rfl, rfl, rfl, rfl, rfl, rfl, fun i => Eight.get_replicate _ i, rfl, rfl, rfl⟩
  · rw [reset_slot]
    exact ⟨rfl, rfl, rfl, rfl, rfl⟩

/-! ## Address maps (R3, R4) -/

/-- The page, lane and line of a PAGE_MAJOR address are its digits (R3). -/
theorem locate_pageMajor {L : Nat} (hL : L < 4194304) :
    (locate .pageMajor L).lane.val = L / 524288 ∧ (locate .pageMajor L).page.val = L % 524288 / 32 ∧
      (locate .pageMajor L).line.val = L % 32 := by
  simp only [locate, Fin.val_ofNat]
  omega

theorem locate_laneSpread {L : Nat} (hL : L < 4194304) :
    (locate .laneSpread L).line.val = L % 32 ∧ (locate .laneSpread L).lane.val = L / 32 % 8 ∧
      (locate .laneSpread L).page.val = L / 256 := by
  simp only [locate, Fin.val_ofNat]
  omega

/-- Settles O5: a location is named by the address that has its fields as digits, and by no other. -/
theorem pageMajorMap : Obligations.PageMajorMap := by
  refine ⟨fun L hL => locate_pageMajor hL, fun l => ?_⟩
  have hlane := l.lane.isLt
  have hpage := l.page.isLt
  have hline := l.line.isLt
  have hrange : l.lane.val * 524288 + l.page.val * 32 + l.line.val < 4194304 := by omega
  refine ⟨hrange, ?_, fun L hL h => ?_⟩
  · obtain ⟨ha, hp, hn⟩ := locate_pageMajor hrange
    exact Location.eq_of_val (by omega) (by omega) (by omega)
  · obtain ⟨ha, hp, hn⟩ := locate_pageMajor hL
    rw [h] at ha hp hn
    omega

/-- Settles O6, as O5. -/
theorem laneSpreadMap : Obligations.LaneSpreadMap := by
  refine ⟨fun L hL => locate_laneSpread hL, fun l => ?_⟩
  have hlane := l.lane.isLt
  have hpage := l.page.isLt
  have hline := l.line.isLt
  have hrange : l.page.val * 256 + l.lane.val * 32 + l.line.val < 4194304 := by omega
  refine ⟨hrange, ?_, fun L hL h => ?_⟩
  · obtain ⟨hn, ha, hp⟩ := locate_laneSpread hrange
    exact Location.eq_of_val (by omega) (by omega) (by omega)
  · obtain ⟨hn, ha, hp⟩ := locate_laneSpread hL
    rw [h] at hn ha hp
    omega

end Sys2Proof.Machine
end

section
/-!
PROOFS. The invariants at reset, and the 48 places that consistent sessions keep the in-flight table within (O60).
-/
namespace Sys2Proof.Machine

/-! ## The state after reset -/

/-- After reset every lane is CLOSED with no debt, and PRF holds no profile (R65, R76, R131). -/
theorem debtsInRange_reset : State.reset.debtsInRange := by
  refine ⟨fun a => ?_, rfl, rfl, rfl⟩
  rw [reset_lane]
  exact ⟨by decide, by decide, nofun, nofun⟩

theorem withinCapacity_reset : State.reset.withinCapacity := by decide

/-! ## The 48 places (R20, R97, R98) -/

/-- A slot has no more entries than it takes of the 48 places. -/
theorem entryCount_le_charge {s : State} (h : s.sessionsConsistent) (k : SlotId) : s.entryCount k ≤ (s.slot k).charge := by
  obtain ⟨hwindow, -, -, -⟩ := h
  obtain ⟨hle, hfree⟩ := hwindow k
  unfold Slot.charge
  split
  · next hf => exact hle.trans (hfree hf).le
  · exact hle

/-- Every key has its slot, so the keys of the four slots are all the keys. -/
theorem length_eq_sum_countP_slot (keys : List EntryKey) :
    keys.length = keys.countP (·.slot == 0) + keys.countP (·.slot == 1) + keys.countP (·.slot == 2) +
      keys.countP (·.slot == 3) := by
  induction keys with
  | nil => rfl
  | cons key keys ih =>
    obtain ⟨slot, tag⟩ := key
    simp only [List.length_cons, List.countP_cons, ih]
    fin_cases slot <;> simp <;> omega

theorem State.length_table_eq (s : State) :
    s.table.length = s.entryCount 0 + s.entryCount 1 + s.entryCount 2 + s.entryCount 3 := by
  simp only [State.entryCount_eq_countP, ← length_eq_sum_countP_slot, List.length_map]

/-- Settles O60: every entry is charged to a slot, no slot has more of them than it takes of the 48 places. -/
theorem invariantsAtResetAndTheTableFits : Obligations.InvariantsAtResetAndTheTableFits := by
  refine ⟨⟨⟨rfl, rfl, rfl⟩, debtsInRange_reset, withinCapacity_reset, tableConsistent_of_reset rfl rfl rfl,
    sessionsConsistent_of_reset rfl rfl rfl⟩, fun s h => ?_⟩
  have hcount := entryCount_le_charge h
  obtain ⟨-, hsum, -, -⟩ := h
  calc s.table.length
      = s.entryCount 0 + s.entryCount 1 + s.entryCount 2 + s.entryCount 3 := s.length_table_eq
    _ ≤ (s.slot 0).charge + (s.slot 1).charge + (s.slot 2).charge + (s.slot 3).charge := by
        gcongr <;> exact hcount _
    _ = s.windowSum := s.windowSum_eq.symm
    _ ≤ 48 := hsum

end Sys2Proof.Machine
end

section
/-!
PROOFS. Which FENCEs complete when the FENCEs of a slot are checked, and after entries of the slot have gone or
ended their work (R26).
-/
namespace Sys2Proof.Machine

/-! ## Which FENCEs complete (R26) -/

@[simp] theorem EntryKind.isFence_iff (kind : EntryKind) : kind.isFence = true ↔ kind = .fence := by
  cases kind <;> simp [EntryKind.isFence]

theorem fenceDone_iff (older : List Entry) (e : Entry) :
    fenceDone older e = true ↔ e.kind = .fence ∧ e.state = .fenceWait ∧
      ∀ o ∈ older, o.key.slot = e.key.slot → o.state = .replyWait := by
  simp [fenceDone, Entry.ended, and_assoc, or_iff_not_imp_left]

theorem Entry.chargedTo_congr (k : SlotId) (e f : Entry) (h : e.key.slot = f.key.slot) :
    e.chargedTo k = f.chargedTo k := by
  rw [Entry.chargedTo, Entry.chargedTo, h]

@[simp] theorem Entry.chargedTo_iff (k : SlotId) (e : Entry) : e.chargedTo k = true ↔ e.key.slot = k := by
  simp [Entry.chargedTo]

/-- An entry that does not keep the FENCEs behind it waiting: it has ended its array work, or it is a FENCE in FENCE_WAIT
itself and completes with them (R26). -/
def Entry.LetsPass (o : Entry) : Prop := o.state = .replyWait ∨ (o.kind = .fence ∧ o.state = .fenceWait)

/-- An entry as it is when its FENCE has completed (R26, R29). -/
def Entry.completed (e : Entry) : Entry := { e with state := .replyWait, outcome := some .ok }

/-- What one check can do: the entry is a FENCE that completes, or it stays and only the rest is checked. -/
theorem completeFencesFrom_cons (check : Entry → Bool) (older : List Entry) (e : Entry) (rest : List Entry) :
    ((check e = true ∧ fenceDone older e = true) ∧ completeFencesFrom check older (e :: rest) =
      (e.completed :: (completeFencesFrom check (e.completed :: older) rest).1,
        e.key :: (completeFencesFrom check (e.completed :: older) rest).2)) ∨
    (¬ (check e = true ∧ fenceDone older e = true) ∧ completeFencesFrom check older (e :: rest) =
      (e :: (completeFencesFrom check (e :: older) rest).1, (completeFencesFrom check (e :: older) rest).2)) := by
  by_cases h : check e = true ∧ fenceDone older e = true
  · exact Or.inl ⟨h, if_pos (Bool.and_eq_true_iff.mpr h)⟩
  · exact Or.inr ⟨h, if_neg (fun hc => h (Bool.and_eq_true_iff.mp hc))⟩

/-- The FENCEs that complete do so in acceptance order (R26, R30). -/
theorem completeFencesFrom_sublist (check : Entry → Bool) : ∀ older es : List Entry,
    (completeFencesFrom check older es).2.Sublist (es.map (·.key))
  | _, [] => List.Sublist.refl []
  | older, e :: rest => by
    rcases completeFencesFrom_cons check older e rest with ⟨-, h⟩ | ⟨-, h⟩ <;> rw [h]
    · exact (completeFencesFrom_sublist check _ rest).cons_cons e.key
    · exact (completeFencesFrom_sublist check _ rest).cons e.key

/-- The table after the checks: the FENCEs that complete are in REPLY_WAIT with outcome OK, the others stay (R26). -/
theorem completeFencesFrom_table (check : Entry → Bool) : ∀ older es : List Entry, (es.map (·.key)).Nodup →
    (completeFencesFrom check older es).1 =
      es.map (fun x => if x.key ∈ (completeFencesFrom check older es).2 then x.completed else x)
  | _, [], _ => rfl
  | older, e :: rest, hkeys => by
    obtain ⟨hnew, hrest⟩ := List.nodup_cons.mp hkeys
    have hne : ∀ x ∈ rest, x.key ≠ e.key := fun x hx hk => hnew (List.mem_map.mpr ⟨x, hx, hk⟩)
    rcases completeFencesFrom_cons check older e rest with ⟨-, h⟩ | ⟨-, h⟩ <;> rw [h]
    · rw [List.map_cons, if_pos List.mem_cons_self]
      refine congrArg (e.completed :: ·) ((completeFencesFrom_table check _ rest hrest).trans ?_)
      exact List.map_congr_left fun x hx => by simp only [List.mem_cons, hne x hx, false_or]
    · have he : e.key ∉ (completeFencesFrom check (e :: older) rest).2 := fun hk =>
        hnew ((completeFencesFrom_sublist check _ rest).subset hk)
      rw [List.map_cons, if_neg he]
      exact congrArg (e :: ·) (completeFencesFrom_table check _ rest hrest)

/-- The FENCEs checked, in one equation (R26, R30). -/
theorem completeFences_eq_map (check : Entry → Bool) {s : State} (hkeys : (s.table.map (·.key)).Nodup) :
    completeFences check s =
      { s with
        table := s.table.map (fun x => if x.key ∈ (completeFencesFrom check [] s.table).2 then x.completed else x)
        replies := s.replies ++ (completeFencesFrom check [] s.table).2 } := by
  rw [← completeFencesFrom_table check [] s.table hkeys]
  rfl

/-- A FENCE completes exactly when every older entry of its slot has ended its array work or is a FENCE in FENCE_WAIT,
which then completes before it. Here `check` names all FENCEs of a slot or none (R26). -/
theorem mem_completeFencesFrom_iff {check : Entry → Bool}
    (hcheck : ∀ e f : Entry, e.key.slot = f.key.slot → check e = check f) {x : Entry} {after : List Entry} :
    ∀ before older : List Entry, ((before ++ x :: after).map (·.key)).Nodup →
      (x.key ∈ (completeFencesFrom check older (before ++ x :: after)).2 ↔
        check x = true ∧ x.kind = .fence ∧ x.state = .fenceWait ∧
          (∀ o ∈ older, o.key.slot = x.key.slot → o.state = .replyWait) ∧
          ∀ o ∈ before, o.key.slot = x.key.slot → o.LetsPass)
  | [], older, hkeys => by
    obtain ⟨hnew, -⟩ := List.nodup_cons.mp hkeys
    rw [List.nil_append]
    rcases completeFencesFrom_cons check older x after with ⟨hx, h⟩ | ⟨hx, h⟩ <;> rw [h] <;>
      rw [fenceDone_iff] at hx
    · simpa using hx
    · have hnot : x.key ∉ (completeFencesFrom check (x :: older) after).2 := fun hk =>
        hnew ((completeFencesFrom_sublist check _ after).subset hk)
      simpa [hnot] using hx
  | e :: before, older, hkeys => by
    obtain ⟨hnew, hrest⟩ := List.nodup_cons.mp hkeys
    have hne : x.key ≠ e.key := fun hk => hnew (List.mem_map.mpr ⟨x, by simp, hk⟩)
    rw [List.cons_append]
    rcases completeFencesFrom_cons check older e (before ++ x :: after) with ⟨hdone, h⟩ | ⟨hdone, h⟩ <;> rw [h] <;>
      rw [fenceDone_iff] at hdone
    · obtain ⟨-, hkind, hst, -⟩ := hdone
      have hlets : e.LetsPass := Or.inr ⟨hkind, hst⟩
      simp only [List.mem_cons, hne, false_or, mem_completeFencesFrom_iff hcheck before _ hrest, forall_eq_or_imp,
        hlets, implies_true, true_and, Entry.completed]
    · simp only [mem_completeFencesFrom_iff hcheck before _ hrest, List.mem_cons, forall_eq_or_imp]
      refine and_congr_right fun hx => and_congr_right fun _ => and_congr_right fun _ => ?_
      constructor
      · rintro ⟨⟨he, holder⟩, hbefore⟩
        exact ⟨holder, fun hslot => Or.inl (he hslot), hbefore⟩
      · rintro ⟨holder, he, hbefore⟩
        refine ⟨⟨fun hslot => (he hslot).resolve_right fun ⟨hkind, hst⟩ => hdone ?_, holder⟩, hbefore⟩
        exact ⟨hcheck e x hslot ▸ hx, hkind, hst, fun o ho hoe => holder o ho (hoe.trans hslot)⟩

/-- A FENCE that completes was in FENCE_WAIT. -/
theorem fenceWait_of_mem_completeFencesFrom {check : Entry → Bool}
    (hcheck : ∀ e f : Entry, e.key.slot = f.key.slot → check e = check f) {es : List Entry}
    (hkeys : (es.map (·.key)).Nodup) {x : Entry} (hx : x ∈ es) (hk : x.key ∈ (completeFencesFrom check [] es).2) :
    x.state = .fenceWait := by
  obtain ⟨before, after, rfl⟩ := List.append_of_mem hx
  obtain ⟨-, -, hst, -⟩ := (mem_completeFencesFrom_iff hcheck before [] hkeys).mp hk
  exact hst

/-! ### After entries have gone or ended their work -/

/-- `g` says what becomes of the entries of a table, `none` of one that goes: each keeps its key, one in FENCE_WAIT stays
as it is, and none enters FENCE_WAIT. -/
structure KeepsFences (g : Entry → Option Entry) (table : List Entry) : Prop where
  key : ∀ x ∈ table, ∀ y, g x = some y → y.key = x.key
  waits : ∀ x ∈ table, x.state = .fenceWait → g x = some x
  waited : ∀ x ∈ table, ∀ y, g x = some y → y.state = .fenceWait → y = x

theorem keys_filterMap_sublist {g : Entry → Option Entry} : ∀ {table : List Entry},
    (∀ x ∈ table, ∀ y, g x = some y → y.key = x.key) →
      ((table.filterMap g).map (·.key)).Sublist (table.map (·.key))
  | [], _ => List.Sublist.refl []
  | x :: table, hkey => by
    have ih := keys_filterMap_sublist fun y hy => hkey y (List.mem_cons_of_mem x hy)
    cases hg : g x with
    | none =>
      rw [List.filterMap_cons_none hg]
      exact ih.cons x.key
    | some y =>
      rw [List.filterMap_cons_some hg, List.map_cons, hkey x List.mem_cons_self y hg]
      exact ih.cons_cons x.key

/-- Which FENCEs of slot `k` complete after the change `g`, said of the table before it (R26). -/
theorem KeepsFences.mem_completeFencesFrom_iff {g : Entry → Option Entry} {k : SlotId} {x : Entry}
    {older younger : List Entry} (h : KeepsFences g (older ++ x :: younger))
    (hkeys : ((older ++ x :: younger).map (·.key)).Nodup) :
    x.key ∈ (completeFencesFrom (Entry.chargedTo k) [] ((older ++ x :: younger).filterMap g)).2 ↔
      x.kind = .fence ∧ x.state = .fenceWait ∧ x.key.slot = k ∧
        ∀ o ∈ older, o.key.slot = k → ∀ y, g o = some y → y.LetsPass := by
  have hx : x ∈ older ++ x :: younger := by simp
  have hnodup := hkeys.sublist (keys_filterMap_sublist h.key)
  by_cases hwait : x.state = .fenceWait
  · have hg : g x = some x := h.waits x hx hwait
    have holder : (∀ o ∈ older.filterMap g, o.key.slot = k → o.LetsPass) ↔
        ∀ o ∈ older, o.key.slot = k → ∀ y, g o = some y → y.LetsPass := by
      have hkey (o : Entry) (ho : o ∈ older) := h.key o (List.mem_append_left _ ho)
      constructor
      · intro hpass o ho hslot y hy
        exact hpass y (List.mem_filterMap.mpr ⟨o, ho, hy⟩) (by rw [hkey o ho y hy, hslot])
      · intro hpass y hy hslot
        obtain ⟨o, ho, hoy⟩ := List.mem_filterMap.mp hy
        exact hpass o ho (by rw [← hkey o ho y hoy, hslot]) y hoy
    rw [List.filterMap_append, List.filterMap_cons_some hg] at hnodup ⊢
    rw [Machine.mem_completeFencesFrom_iff (Entry.chargedTo_congr k) _ _ hnodup, Entry.chargedTo_iff, ← holder]
    constructor
    · rintro ⟨hslot, hkind, hst, -, hpass⟩
      exact ⟨hkind, hst, hslot, hslot ▸ hpass⟩
    · rintro ⟨hkind, hst, hslot, hpass⟩
      exact ⟨hslot, hkind, hst, fun o ho => absurd ho List.not_mem_nil, hslot ▸ hpass⟩
  · refine iff_of_false (fun hk => ?_) (fun ⟨_, hst, _⟩ => hwait hst)
    obtain ⟨y, hy, hyk⟩ := List.mem_map.mp ((completeFencesFrom_sublist _ _ _).subset hk)
    have hywait := fenceWait_of_mem_completeFencesFrom (Entry.chargedTo_congr k) hnodup hy (hyk ▸ hk)
    obtain ⟨z, hz, hzy⟩ := List.mem_filterMap.mp hy
    obtain rfl := eq_of_key_eq hkeys hz hx ((h.key z hz y hzy).symm.trans hyk)
    exact hwait (h.waited z hz y hzy hywait ▸ hywait)

end Sys2Proof.Machine
end

section
/-!
PROOFS. What a lane's decision and the sender's choice after it can do and what they leave alone (R48, R153).
-/
namespace Sys2Proof.Machine

/-! ## What a service can do -/

/-- All that ITG's decision at a selection can do: a remap, the exhaustion of the location's lane, or nothing
(R91, R92). -/
theorem selectWrite_cases (k : EntryKey) (loc : Location) (s : State) :
    (∃ (l : Lane) (itg : Integrity), selectWrite k loc s =
      State.onEntry { s with lanes := s.lanes.set loc.lane l, itg := itg } k (fun e => { e with remapped := true })) ∨
    (∃ l : Lane, selectWrite k loc s = postNotice (.sparesExhausted loc.lane) (s.setLane loc.lane l)) ∨
    selectWrite k loc s = s := by
  unfold selectWrite
  split
  · split
    · exact Or.inl ⟨_, _, rfl⟩
    · split
      · exact Or.inr (Or.inr rfl)
      · exact Or.inr (Or.inl ⟨_, rfl⟩)
  · exact Or.inr (Or.inr rfl)

theorem postNotice_lane (n : Notice) (s : State) (b : LaneId) : (postNotice n s).lane b = s.lane b := by
  rw [postNotice_eq]
  rfl

theorem selectWrite_lane_other (k : EntryKey) {loc : Location} (s : State) {b : LaneId} (h : b ≠ loc.lane) :
    (selectWrite k loc s).lane b = s.lane b := by
  rcases selectWrite_cases k loc s with ⟨l, itg, hs⟩ | ⟨l, hs⟩ | hs <;> rw [hs]
  · exact Eight.get_set_other _ _ _ _ h
  · rw [postNotice_lane, State.setLane_lane_other _ _ _ _ h]

theorem selectWrite_lane_state (k : EntryKey) (loc : Location) (s : State) (b : LaneId) :
    ((selectWrite k loc s).lane b).state = (s.lane b).state := by
  obtain ⟨g, w⟩ := sameWork_selectWrite k loc s
  exact w.states b

/-- A change of one entry leaves the entries with other keys in the table. -/
theorem mem_onEntry_of_key_ne {s : State} {k : EntryKey} (f : Entry → Entry) {x : Entry} (hx : x ∈ s.table)
    (hk : x.key ≠ k) : x ∈ (s.onEntry k f).table :=
  List.mem_map.mpr ⟨x, hx, if_neg hk⟩

theorem mem_selectWrite_of_key_ne {s : State} {k : EntryKey} (loc : Location) {x : Entry} (hx : x ∈ s.table)
    (hk : x.key ≠ k) : x ∈ (selectWrite k loc s).table := by
  rcases selectWrite_cases k loc s with ⟨l, itg, hs⟩ | ⟨l, hs⟩ | hs <;> rw [hs]
  · exact mem_onEntry_of_key_ne _ hx hk
  · rw [postNotice_eq]
    exact hx
  · exact hx

theorem mem_raisePasses_of_not_mem {s : State} {passed : List EntryKey} {x : Entry} (hx : x ∈ s.table)
    (hk : x.key ∉ passed) : x ∈ (raisePasses passed s).table :=
  List.mem_map.mpr ⟨x, hx, if_neg hk⟩

/-- All that a service can do: nothing, or ITG's decision for a WRITE, after which the entry is ACTIVE and its lane in its
first phase (R57). -/
theorem serve_cases (a : LaneId) (p : PageName) (k : EntryKey) (passed : List EntryKey) (s : State) :
    serve a p k passed s = s ∨
    ∃ (e : Entry) (loc : Location) (t : State) (line : ArrayLine), s.entry k = some e ∧ e.location = some loc ∧
      (t = raisePasses passed s ∨ t = selectWrite k loc (raisePasses passed s)) ∧
      serve a p k passed s =
        (t.onEntry k (fun e => { e with state := .active })).setLaneState a (.access p k e.kind.firstPhase line) := by
  unfold serve
  split
  · exact Or.inl rfl
  · next e he =>
    split
    · exact Or.inl rfl
    · next loc hloc =>
      refine Or.inr ⟨e, loc, _, _, he, hloc, ?_, rfl⟩
      split
      · exact Or.inr rfl
      · exact Or.inl rfl

/-! ## What a lane's decision leaves alone (R48) -/

theorem mem_keysBefore {k k' : EntryKey} : ∀ {es : List Entry}, k' ∈ keysBefore k es → ∃ e ∈ es, e.key = k'
  | [], h => absurd h List.not_mem_nil
  | e :: es, h => by
    unfold keysBefore at h
    split at h
    · exact absurd h List.not_mem_nil
    · rcases List.mem_cons.mp h with rfl | h
      · exact ⟨e, List.mem_cons_self, rfl⟩
      · obtain ⟨f, hf, hk⟩ := mem_keysBefore h
        exact ⟨f, List.mem_cons_of_mem e hf, hk⟩

/-- A decision passes over eligible entries only (R52, R53). -/
theorem decideHeld_passed {s : State} {a : LaneId} {p : PageName} {k : EntryKey} {passed : List EntryKey}
    (h : s.decideHeld a p = .serve k passed) : ∀ k' ∈ passed, ∃ e ∈ s.eligible a, e.key = k' := by
  unfold State.decideHeld at h
  split at h
  · split at h <;> cases h
  · next o es hE =>
    rw [hE]
    split at h
    · cases h
      exact fun k' hk' => absurd hk' List.not_mem_nil
    · split at h
      · cases h
      · split at h
        · cases h
          exact fun k' hk' => mem_keysBefore hk'
        · cases h

theorem decision_held {s : State} {a : LaneId} {p : PageName} (h : (s.lane a).state = .held p) :
    s.decision a = .close ∨ s.decision a = s.decideHeld a p := by
  unfold State.decision
  simp only [h]
  split
  · exact Or.inl rfl
  · exact Or.inr rfl

/-- All that a lane's decision can do: nothing, an operation of the lane begun that is no access, or the service of an
eligible entry past eligible ones (R49 to R57). -/
theorem decideLane_cases (s : State) (a : LaneId) :
    decideLane s a = s ∨ (∃ st : LaneState, st ≠ .closed ∧ decideLane s a = s.setLaneState a st) ∨
    ∃ (p : PageName) (e : Entry) (passed : List EntryKey), e ∈ s.eligible a ∧
      (∀ k ∈ passed, ∃ f ∈ s.eligible a, f.key = k) ∧ decideLane s a = serve a p e.key passed s := by
  unfold decideLane act
  split
  · next k passed p hd hl =>
    have hheld : s.decideHeld a p = .serve k passed := by
      rcases decision_held hl with h | h <;> rw [h] at hd
      · cases hd
      · exact hd
    obtain ⟨e, he, rfl⟩ := decideHeld_serve hheld
    exact Or.inr (Or.inr ⟨p, e, passed, he, decideHeld_passed hheld, rfl⟩)
  · exact Or.inr (Or.inl ⟨.opening _, nofun, rfl⟩)
  · exact Or.inr (Or.inl ⟨.closing _, nofun, rfl⟩)
  · exact Or.inr (Or.inl ⟨.restoring, nofun, rfl⟩)
  · exact Or.inl rfl

/-- No lane comes to be CLOSED by a decision: a page close takes its time (R15). -/
theorem decideLane_not_closed (s : State) (a b : LaneId) (h : (s.lane b).state ≠ .closed) :
    ((decideLane s a).lane b).state ≠ .closed := by
  have hset {t : State} {st : LaneState} (ht : (t.lane b).state = (s.lane b).state) (hst : st ≠ .closed) :
      ((t.setLaneState a st).lane b).state ≠ .closed := by
    rw [State.setLaneState_lane]
    split
    · exact hst
    · rwa [ht]
  rcases decideLane_cases s a with hd | ⟨st, hst, hd⟩ | ⟨p, e, passed, -, -, hd⟩ <;> rw [hd]
  · exact h
  · exact hset rfl hst
  · rcases serve_cases a p e.key passed s with hs | ⟨e', loc, t, line, -, -, ht, hs⟩ <;> rw [hs]
    · exact h
    · refine hset ?_ nofun
      rcases ht with rfl | rfl
      · rfl
      · exact selectWrite_lane_state _ _ _ _

/-- A decision changes the record of its own lane only, since an eligible entry has its location there (R43). -/
theorem decideLane_lane_other {s : State} {a b : LaneId} (hkeys : (s.table.map (·.key)).Nodup) (h : b ≠ a) :
    (decideLane s a).lane b = s.lane b := by
  rcases decideLane_cases s a with hd | ⟨st, -, hd⟩ | ⟨p, e, passed, he, -, hd⟩ <;> rw [hd]
  · rw [State.setLaneState_lane, if_neg h]
  · obtain ⟨hmem, -, loc, hloc, hlane⟩ := mem_eligible he
    rcases serve_cases a p e.key passed s with hs | ⟨e', loc', t, line, he', hloc', ht, hs⟩ <;> rw [hs]
    obtain rfl : e = e' := Option.some.inj ((State.entry_eq_some hkeys hmem).symm.trans he')
    obtain rfl : loc = loc' := Option.some.inj (hloc.symm.trans hloc')
    rw [State.setLaneState_lane, if_neg h]
    rcases ht with rfl | rfl
    · rfl
    · exact selectWrite_lane_other e.key (raisePasses passed s) (hlane ▸ h)

/-- A decision leaves the entries that are not QUEUED as they are (R45, R52, R57). -/
theorem mem_decideLane {s : State} {x : Entry} (a : LaneId) (hkeys : (s.table.map (·.key)).Nodup) (hx : x ∈ s.table)
    (hst : x.state ≠ .queued) : x ∈ (decideLane s a).table := by
  have hne : ∀ e ∈ s.eligible a, x.key ≠ e.key := fun e he hk => by
    obtain ⟨hmem, hqueued, -⟩ := mem_eligible he
    exact hst (eq_of_key_eq hkeys hx hmem hk ▸ hqueued)
  rcases decideLane_cases s a with hd | ⟨st, -, hd⟩ | ⟨p, e, passed, he, hpassed, hd⟩ <;> rw [hd]
  · exact hx
  · exact hx
  · rcases serve_cases a p e.key passed s with hs | ⟨e', loc, t, line, -, -, ht, hs⟩ <;> rw [hs]
    · exact hx
    · have hraised : x ∈ (raisePasses passed s).table := mem_raisePasses_of_not_mem hx fun hk => by
        obtain ⟨f, hf, hfk⟩ := hpassed _ hk
        exact hne f hf hfk.symm
      refine mem_onEntry_of_key_ne _ ?_ (hne e he)
      rcases ht with rfl | rfl
      · exact hraised
      · exact mem_selectWrite_of_key_ne loc hraised (hne e he)

/-! ## What the decisions of several lanes leave alone -/

theorem tell_not_closed (lanes : List LaneId) {s : State} {b : LaneId} (h : (s.lane b).state ≠ .closed) :
    ((tell lanes s).lane b).state ≠ .closed :=
  keeps_tell (P := fun t => (t.lane b).state ≠ .closed) (fun a t ht => decideLane_not_closed t a b ht) lanes s h

/-- A lane with an operation in progress is left as it is by every decision (R48). -/
theorem tell_lane_of_not_idle (lanes : List LaneId) {s : State} {b : LaneId} (hkeys : (s.table.map (·.key)).Nodup)
    (h : (s.lane b).state.idle = false) : (tell lanes s).lane b = s.lane b := by
  refine (keeps_tell (P := fun t => (t.table.map (·.key)).Nodup ∧ t.lane b = s.lane b) (fun a t ht => ?_) lanes s
    ⟨hkeys, rfl⟩).2
  obtain ⟨hnodup, hlane⟩ := ht
  refine ⟨(decided_decideLane t a).2 ▸ hnodup, ?_⟩
  by_cases hb : b = a
  · subst hb
    dsimp only
    rw [decideLane_of_not_idle (hlane ▸ h), hlane]
  · exact (decideLane_lane_other hnodup hb).trans hlane

theorem mem_tell (lanes : List LaneId) {s : State} {x : Entry} (hkeys : (s.table.map (·.key)).Nodup) (hx : x ∈ s.table)
    (hst : x.state ≠ .queued) : x ∈ (tell lanes s).table := by
  refine (keeps_tell (P := fun t => (t.table.map (·.key)).Nodup ∧ x ∈ t.table) (fun a t ht => ?_) lanes s
    ⟨hkeys, hx⟩).2
  obtain ⟨hnodup, hmem⟩ := ht
  exact ⟨(decided_decideLane t a).2 ▸ hnodup, mem_decideLane a hnodup hmem hst⟩

/-! ## Which lanes are told -/

/-- A lane is told of a change when its queue has changed or an entry has become eligible (R27, R48). -/
theorem toldOf_iff (before after : State) (b : LaneId) : toldOf before after b = true ↔
    (before.laneQueue b).map (·.key) ≠ (after.laneQueue b).map (·.key) ∨
      ∃ x ∈ after.eligible b, ∀ y ∈ before.eligible b, y.key ≠ x.key := by
  simp [toldOf]

/-! ## The sender's choice -/

/-- The sender's choice is none of the down receiver's business (R153). -/
theorem Link.choose_receiver (l : Link) : l.choose.intake = l.intake ∧ l.choose.release = l.release := by
  unfold Link.choose Link.begin
  split
  · exact ⟨rfl, rfl⟩
  · split
    · exact ⟨rfl, rfl⟩
    · split
      · exact ⟨rfl, rfl⟩
      · split
        · split <;> exact ⟨rfl, rfl⟩
        · split
          · exact ⟨rfl, rfl⟩
          · split <;> exact ⟨rfl, rfl⟩

theorem kick_receiver (s : State) :
    (kick s).link.intake = s.link.intake ∧ (kick s).link.release = s.link.release := by
  unfold kick
  split
  · exact s.link.choose_receiver
  · exact ⟨rfl, rfl⟩

/-- What the lanes' decisions, and the sender's choice after them, leave alone. -/
theorem State.Decided.kick_frame {s t : State} (h : s.Decided t) :
    (kick t).replies = s.replies ∧ (kick t).slots = s.slots ∧ (kick t).waiting = s.waiting ∧
      (kick t).link.intake = s.link.intake ∧ (kick t).link.release = s.link.release ∧ (kick t).array = s.array ∧
      (kick t).prf = s.prf ∧ (kick t).stc = s.stc ∧ (kick t).rst = s.rst ∧ (kick t).pins = s.pins ∧
      (kick t).pending = s.pending := by
  obtain ⟨hintake, hrelease⟩ := kick_receiver t
  rw [kick_replies, kick_slots, kick_waiting, hintake, hrelease, kick_array, kick_prf, kick_stc, kick_rst, kick_pins,
    kick_pending, h.1]
  exact ⟨rfl, rfl, rfl, rfl, rfl, rfl, rfl, rfl, rfl, rfl, rfl⟩

end Sys2Proof.Machine
end

section
/-!
PROOFS. The end of array work (O47).
-/
namespace Sys2Proof.Machine

/-! ## The end of array work (R29, R40, R104, R108) -/

/-- What the end of the array work of entry `e` makes of an entry `x` of the table: of `e` itself nothing when it is an
orphan, else an entry in REPLY_WAIT with its outcome (R29, R40). -/
def workEnded (e x : Entry) : Option Entry :=
  if x.key = e.key then
    if e.orphan then none else some { x with state := .replyWait, outcome := some (statusOf e.found) }
  else some x

theorem workEnded_of_ne {e x : Entry} (h : x.key ≠ e.key) : workEnded e x = some x := if_neg h

/-- What is left of an entry whose work has ended is in REPLY_WAIT. -/
theorem workEnded_self {e x y : Entry} (hk : x.key = e.key) (h : workEnded e x = some y) :
    y.key = x.key ∧ y.state = .replyWait := by
  unfold workEnded at h
  rw [if_pos hk] at h
  split at h
  · cases h
  · cases h
    exact ⟨rfl, rfl⟩

theorem filterMap_workEnded (e : Entry) (table : List Entry) :
    table.filterMap (workEnded e) =
      if e.orphan then table.filter (fun x => x.key ≠ e.key)
      else table.map (fun x =>
        if x.key = e.key then { x with state := .replyWait, outcome := some (statusOf e.found) } else x) := by
  split
  · next ho =>
    rw [← List.filterMap_eq_filter]
    refine List.filterMap_congr fun x _ => ?_
    by_cases hk : x.key = e.key <;> simp [workEnded, Option.guard, hk, ho]
  · next ho =>
    rw [← List.filterMap_eq_map]
    refine List.filterMap_congr fun x _ => ?_
    by_cases hk : x.key = e.key <;> simp [workEnded, hk, ho]

theorem keepsFences_workEnded {e : Entry} {table : List Entry} (hkeys : (table.map (·.key)).Nodup) (he : e ∈ table)
    (hactive : e.state = .active) : KeepsFences (workEnded e) table where
  key x _ y hy := by
    by_cases hk : x.key = e.key
    · exact (workEnded_self hk hy).1
    · rw [workEnded_of_ne hk] at hy
      exact Option.some.inj hy ▸ rfl
  waits x hx hst := workEnded_of_ne fun hk => by
    rw [eq_of_key_eq hkeys hx he hk, hactive] at hst
    cases hst
  waited x _ y hy hst := by
    by_cases hk : x.key = e.key
    · rw [(workEnded_self hk hy).2] at hst
      cases hst
    · rw [workEnded_of_ne hk] at hy
      exact (Option.some.inj hy).symm

/-- After the end of the work of `e` an entry lets the FENCEs behind it pass when it is `e`, or did so before. -/
theorem workEnded_letsPass_iff (e o : Entry) :
    (∀ y, workEnded e o = some y → y.LetsPass) ↔ o.key = e.key ∨ o.LetsPass := by
  by_cases hk : o.key = e.key
  · exact iff_of_true (fun y hy => Or.inl (workEnded_self hk hy).2) (Or.inl hk)
  · simp [workEnded_of_ne hk, hk]

/-- The count of a slot from which an entry has gone (R98). -/
theorem entryCount_of_free {s t : State} {e : Entry} (hkeys : (s.table.map (·.key)).Nodup) (he : e ∈ s.table)
    (ht : t.table = s.table.filter (fun x => x.key != e.key)) :
    t.entryCount e.key.slot = s.entryCount e.key.slot - 1 := by
  have herase : t.table.map (·.key) = (s.table.map (·.key)).erase e.key := by
    rw [hkeys.erase_eq_filter, ht, List.filter_map]
    rfl
  rw [State.entryCount_eq_countP, State.entryCount_eq_countP, herase, List.countP_erase]
  simp [List.mem_map_of_mem he]

/-- A CLOSING slot without entries produces its CLOSED reply, and nothing else happens (R104). -/
theorem closeIfDrained_eq (k : SlotId) (s : State) :
    closeIfDrained k s = { s with waiting := s.waiting ++
      if (s.slot k).state = .closing ∧ s.entryCount k = 0 then [.closed k (s.slot k).discarded] else [] } := by
  unfold closeIfDrained
  split
  · rfl
  · rw [List.append_nil]

/-- What SES does at a fall of a slot's count, in one equation (R98, R104, R108). -/
theorem countFell_eq (k : SlotId) (s : State) :
    countFell k s = { s with
      slots := if (s.slot k).state = .detached ∧ s.entryCount k = 0 then s.slots.set k Slot.unused else s.slots
      waiting := s.waiting ++
        if (s.slot k).state = .closing ∧ s.entryCount k = 0 then [.closed k (s.slot k).discarded] else [] } := by
  unfold countFell
  split
  · next h => rw [if_neg (by simp [h.1]), List.append_nil, State.setSlot]
  · exact closeIfDrained_eq k s

/-- An entry of the table freed, in one equation: with the last one of its slot a DETACHED slot is FREE and a CLOSING one
produces its CLOSED reply (R22, R23, R30, R98, R104, R108). -/
theorem freeEntry_of_mem {s : State} {e : Entry} (hkeys : (s.table.map (·.key)).Nodup) (he : e ∈ s.table) :
    freeEntry e.key s =
      { s with
        table := s.table.filter (fun x => x.key != e.key)
        replies := s.replies.filter (fun r => r != e.key)
        slots := if (s.slot e.key.slot).state = .detached ∧ s.entryCount e.key.slot = 1 then
            s.slots.set e.key.slot Slot.unused else s.slots
        waiting := s.waiting ++ if (s.slot e.key.slot).state = .closing ∧ s.entryCount e.key.slot = 1 then
            [.closed e.key.slot (s.slot e.key.slot).discarded] else [] } := by
  have hcount := entryCount_of_free (t := { s with
    table := s.table.filter (fun x => x.key != e.key), replies := s.replies.filter (fun r => r != e.key) }) hkeys he rfl
  have hlast : s.entryCount e.key.slot - 1 = 0 ↔ s.entryCount e.key.slot = 1 := by
    have := State.entryCount_ne_zero he
    omega
  unfold freeEntry
  rw [countFell_eq]
  simp only [hcount, hlast]
  rfl

/-- The end of the array work of an entry of the table before its slot's FENCEs are checked, in one equation
(R29, R40). -/
theorem finishEntry_of_mem {s : State} {e : Entry} (hkeys : (s.table.map (·.key)).Nodup) (he : e ∈ s.table) :
    finishEntry e s =
      { s with
        table := s.table.filterMap (workEnded e)
        replies := if e.orphan then s.replies.filter (fun r => r ≠ e.key) else s.replies ++ [e.key]
        slots := if (e.orphan && s.entryCount e.key.slot == 1) && (s.slot e.key.slot).state == .detached then
            s.slots.set e.key.slot Slot.unused else s.slots
        waiting := s.waiting ++
          if (e.orphan && s.entryCount e.key.slot == 1) && (s.slot e.key.slot).state == .closing then
            [.closed e.key.slot (s.slot e.key.slot).discarded] else [] } := by
  rw [filterMap_workEnded]
  unfold finishEntry
  by_cases ho : e.orphan = true
  · simp [ho, freeEntry_of_mem hkeys he, bne, beq_eq_decide, and_comm]
  · simp [ho, toReplyWait, State.onEntry]

/-- Settles O47: the work of the entry ends, its slot's FENCEs are checked against what is left, and the lanes concerned
decide. -/
theorem endOfArrayWorkReleasesTheReply : Obligations.EndOfArrayWorkReleasesTheReply := by
  intro a p e s hkeys he hactive slot emptied outcome t
  have houtcome : statusOf e.found = outcome := by
    unfold outcome
    cases e.found with
    | none => rfl
    | some o => cases o <;> rfl
  have hfences := keepsFences_workEnded hkeys he hactive
  have hleft := keys_filterMap_sublist hfences.key
  let v := finishEntry e (s.setLaneState a (.held p))
  have hv : v = _ := finishEntry_of_mem (s := s.setLaneState a (.held p)) hkeys he
  have hvtable : v.table = s.table.filterMap (workEnded e) := by rw [hv]; rfl
  have hvlane (b : LaneId) : v.lane b = (s.setLaneState a (.held p)).lane b := by rw [hv]; rfl
  have hvkeys : (v.table.map (·.key)).Nodup := hvtable ▸ hkeys.sublist hleft
  let w := completeFences (Entry.chargedTo e.key.slot) v
  have hwkeys : (w.table.map (·.key)).Nodup := by
    unfold w
    rwa [completeFences_keys]
  have hd : w.Decided t := decided_tell _ _
  refine ⟨⟨(completeFencesFrom (Entry.chargedTo e.key.slot) [] (s.table.filterMap (workEnded e))).2,
    (completeFencesFrom_sublist _ _ _).trans hleft, fun older younger x hx => ?_, ?_⟩, fun b hb hidle => ?_, ?_, ?_⟩
  · rw [hx] at hfences hkeys ⊢
    rw [hfences.mem_completeFencesFrom_iff hkeys]
    simp only [workEnded_letsPass_iff]
    rfl
  · intro kept u
    have hkept : kept = s.table.filterMap (workEnded e) := by
      rw [filterMap_workEnded, houtcome]
    have hu : w = u := by
      unfold w u
      rw [completeFences_eq_map _ hvkeys, hvtable, hkept, hv]
      rfl
    have htell : t = tell (allLanes.filter (fun b => b == a || toldOf s w b)) w := endWork_eq a p e s
    rw [htell, hu]
    congr 1
    refine List.filter_congr fun b _ => ?_
    rw [Bool.eq_iff_iff, Bool.or_eq_true, toldOf_iff, beq_iff_eq, decide_eq_true_eq]
  · have hw : w.lane b = s.lane b := (hvlane b).trans (by rw [State.setLaneState_lane, if_neg hb])
    exact (tell_lane_of_not_idle _ hwkeys (hw ▸ hidle)).trans hw
  · refine tell_not_closed _ ?_
    change (v.lane a).state ≠ _
    rw [hvlane, State.setLaneState_lane, if_pos rfl]
    exact nofun
  · have hw : t.array = w.array ∧ t.link = w.link ∧ t.prf = w.prf ∧ t.stc = w.stc ∧ t.rst = w.rst := by
      rw [hd.1]
      exact ⟨rfl, rfl, rfl, rfl, rfl⟩
    unfold w at hw
    rw [completeFences_eq, hv] at hw
    exact hw

end Sys2Proof.Machine
end

section
/-!
PROOFS. CLOSE with discard (O33).
-/
namespace Sys2Proof.Machine

/-! ## CLOSE with discard is taken (R102, R103, R184) -/

theorem rowOf_closeWithDiscard : ∀ k : SlotId, rowOf (Request.close (slotByte k) true).bytes = .closeWithDiscard := by
  decide

theorem decodeMessage_closeWithDiscard : ∀ k : SlotId,
    decodeMessage (Request.close (slotByte k) true).bytes = .ok (.close (slotByte k) true) := by
  decide

theorem slotOf_slotByte : ∀ k : SlotId, slotOf (slotByte k) = some k := by
  decide

/-- A CLOSE of an OPEN slot passes the checks of R102 outside INITIALIZING. -/
theorem closeChecks_of_opened {s : State} {k : SlotId} (hdevice : s.stc.device ≠ .initializing)
    (hopen : (s.slot k).state = .opened) : closeChecks s (slotByte k) = .ok k := by
  simp only [closeChecks, if_neg hdevice, slotOf_slotByte, hopen]

theorem exec_closeWithDiscard {s : State} {k : SlotId} (hs : s.settled)
    (hhead : s.intHead = some (Request.close (slotByte k) true).bytes) (hdevice : s.stc.device ≠ .initializing)
    (hopen : (s.slot k).state = .opened) :
    exec .closeWithDiscard s = .next (kick (tellChanged s (discardEntries k s))) := by
  change execCloseWithDiscard s = _
  rw [execCloseWithDiscard, event_intTakes hs hhead (rowOf_closeWithDiscard k), decodeMessage_closeWithDiscard]
  dsimp only
  rw [closeRequest, closeChecks_of_opened hdevice hopen]
  rfl

/-! ## What it frees (R37, R38, R98) -/

theorem Entry.discardable_iff (k : SlotId) (e : Entry) :
    e.discardable k = true ↔ e.key.slot = k ∧ (e.state = .profileHeld ∨ e.state = .queued) := by
  simp [Entry.discardable]

/-- The entries discarded and those left make up the slot's entries. -/
theorem entryCount_of_discard {s t : State} {k : SlotId}
    (ht : t.table.map (·.key) = (s.table.filter (fun e => !e.discardable k)).map (·.key)) :
    s.entryCount k = (s.table.filter (Entry.discardable k)).length + t.entryCount k := by
  have hdiscarded : (s.table.filter (Entry.discardable k)).countP (fun e => e.key.slot == k) =
      (s.table.filter (Entry.discardable k)).length := by
    rw [List.countP_eq_length]
    intro e he
    obtain ⟨hslot, -⟩ := (e.discardable_iff k).mp (List.mem_filter.mp he).2
    exact beq_iff_eq.mpr hslot
  have hleft : t.entryCount k = (s.table.filter (fun e => !e.discardable k)).countP (fun e => e.key.slot == k) := by
    rw [State.entryCount_eq_countP, ht, List.countP_map]
    rfl
  rw [State.entryCount, ← List.countP_eq_length_filter, hleft, ← hdiscarded]
  exact List.countP_eq_countP_filter_add _ _ _

/-- The FENCEs of slot `k` that complete when its PROFILE_HELD and QUEUED entries are gone, in acceptance order
(R26, R38). -/
def discardFences (k : SlotId) (s : State) : List EntryKey :=
  (completeFencesFrom (Entry.chargedTo k) [] (s.table.filter (fun e => !e.discardable k))).2

/-- CLOSE with discard before the lanes decide, in one equation (R38, R103, R104, R151). -/
theorem discardEntries_of_nodup {s : State} (k : SlotId) (hkeys : (s.table.map (·.key)).Nodup) :
    let left := s.table.filter (fun e => !e.discardable k)
    let n := (s.table.filter (Entry.discardable k)).length
    discardEntries k s =
      { s with
        table := left.map (fun x => if x.key ∈ discardFences k s then x.completed else x)
        replies := s.replies ++ discardFences k s
        slots := s.slots.set k { s.slot k with state := .closing, discarded := n }
        waiting := s.waiting ++ (if s.entryCount k = n then [.closed k n] else [])
        link := { s.link with
          intake := s.link.intake.tail
          release := s.link.release + 1#8
          pendingCredit := s.link.pendingCredit || s.link.outbound.isEmpty } } := by
  intro left n
  let freed : State := { s.setSlot k { s.slot k with state := .closing, discarded := n } with table := left }
  let t := completeFences (Entry.chargedTo k) (depart freed)
  have ht : t = _ := completeFences_eq_map (s := depart freed) (Entry.chargedTo k)
    (hkeys.sublist (List.filter_sublist.map _))
  have hslot : t.slot k = { s.slot k with state := .closing, discarded := n } := Four.get_set_same _ _ _
  have hdrained : (t.slot k).state = .closing ∧ t.entryCount k = 0 ↔ s.entryCount k = n := by
    have hcount : s.entryCount k = n + t.entryCount k := entryCount_of_discard (completeFences_keys _ _)
    rw [hslot]
    constructor
    · rintro ⟨-, hzero⟩
      omega
    · intro hall
      exact ⟨rfl, by omega⟩
  change closeIfDrained k t = _
  simp only [closeIfDrained_eq, hdrained]
  rw [hslot, ht]
  rfl

theorem discardEntries_keys (k : SlotId) (s : State) :
    (discardEntries k s).table.map (·.key) = (s.table.filter (fun e => !e.discardable k)).map (·.key) := by
  rw [discardEntries, closeIfDrained_eq]
  exact completeFences_keys _ _

/-- An entry left that is not QUEUED is in the table after the lanes' decisions, as the check of its slot's FENCEs left
it (R26, R38). -/
theorem mem_tell_discardEntries (lanes : List LaneId) {k : SlotId} {s : State} (hkeys : (s.table.map (·.key)).Nodup)
    {x : Entry} (hx : x ∈ s.table) (hkept : x.discardable k = false) (hst : x.state ≠ .queued) :
    (if x.key ∈ discardFences k s then x.completed else x) ∈ (tell lanes (discardEntries k s)).table := by
  refine mem_tell lanes ?_ ?_ ?_
  · rw [discardEntries_keys]
    exact hkeys.sublist (List.filter_sublist.map _)
  · rw [discardEntries_of_nodup k hkeys]
    exact List.mem_map_of_mem (List.mem_filter.mpr ⟨hx, by simp [hkept]⟩)
  · split
    · exact nofun
    · exact hst

/-! ## CLOSE with discard as a whole -/

theorem keepsFences_discard (k : SlotId) (table : List Entry) :
    KeepsFences (Option.guard (fun e => !e.discardable k)) table where
  key x _ y hy := by
    obtain ⟨rfl, -⟩ := Option.guard_eq_some_iff.mp hy
    rfl
  waits x _ hst := Option.guard_eq_some_iff.mpr ⟨rfl, by simp [Entry.discardable, hst]⟩
  waited x _ y hy _ := by
    obtain ⟨rfl, -⟩ := Option.guard_eq_some_iff.mp hy
    rfl

/-- After the discard an entry lets the FENCEs behind it pass when it is gone, or did so before. -/
theorem discard_letsPass_iff (k : SlotId) (o : Entry) :
    (∀ y, Option.guard (fun e => !e.discardable k) o = some y → y.LetsPass) ↔ o.discardable k = true ∨ o.LetsPass := by
  by_cases ho : o.discardable k = true <;> simp [Option.guard, ho]

/-- Settles O33: the entries not begun go, the slot's FENCEs are checked against what is left, and the lanes concerned
decide. -/
theorem closeWithDiscardFreesTheWorkNotBegun : Obligations.CloseWithDiscardFreesTheWorkNotBegun := by
  intro k s hs hkeys hhead hdevice hopen gone n
  let left := s.table.filter (fun e => !gone e)
  let u := discardEntries k s
  let told := tell (allLanes.filter (toldOf s u)) u
  have hleft : (left.map (·.key)).Sublist (s.table.map (·.key)) := List.filter_sublist.map _
  have hu : u = _ := discardEntries_of_nodup k hkeys
  have hd : u.Decided told := decided_tell _ _
  have hukeys : (u.table.map (·.key)).Nodup := discardEntries_keys k s ▸ hkeys.sublist hleft
  have hframe := hd.kick_frame
  rw [hu] at hframe
  obtain ⟨hreplies, hslots, hwaiting, hintake, hrelease, harray, hprf, hstc, hrst, hpins, hpending⟩ := hframe
  refine ⟨kick told, discardFences k s, exec_closeWithDiscard hs hhead hdevice hopen, ?_, ?_, fun e he hst => ?_,
    (completeFencesFrom_sublist _ _ _).trans hleft, hreplies, fun older younger x hx => ?_, fun x hx hst => ?_, hslots,
    hwaiting, hintake, hrelease, harray, hprf, hstc, hrst, hpins, hpending, fun a hidle => ?_⟩
  · intro v
    have hv : u = v := hu
    unfold told
    rw [hv]
    congr 2
    refine List.filter_congr fun b _ => ?_
    rw [Bool.eq_iff_iff, toldOf_iff, decide_eq_true_eq]
  · rw [kick_table, hd.2]
    exact discardEntries_keys k s
  · have hkept : gone e = false := by rcases hst with hst | hst <;> simp [gone, hst]
    have hqueued : e.state ≠ .queued := by rcases hst with hst | hst <;> simp [hst]
    have hnot : e.key ∉ discardFences k s := fun hk => by
      have hwait := fenceWait_of_mem_completeFencesFrom (Entry.chargedTo_congr k) (hkeys.sublist hleft)
        (List.mem_filter.mpr ⟨he, by simp [hkept]⟩) hk
      rcases hst with hst | hst <;> cases hst.symm.trans hwait
    have hmem := mem_tell_discardEntries (allLanes.filter (toldOf s u)) hkeys he hkept hqueued
    rwa [if_neg hnot, ← kick_table] at hmem
  · have hfences := keepsFences_discard k s.table
    have hiff := (hx ▸ hfences).mem_completeFencesFrom_iff (k := k) (hx ▸ hkeys)
    rw [List.filterMap_eq_filter, ← hx] at hiff
    simp only [discard_letsPass_iff] at hiff
    exact hiff
  · rw [kick_table]
    exact mem_tell_discardEntries _ hkeys hx (by simp [Entry.discardable, hst]) (by simp [hst])
  · have hlanes : u.lane a = s.lane a := by
      rw [hu]
      rfl
    rw [State.lane, kick_lanes]
    exact (tell_lane_of_not_idle _ hukeys (hlanes ▸ hidle)).trans hlanes

end Sys2Proof.Machine
end

section
/-!
PROOFS. Which entries of a lane are eligible, and in what order (O41).
-/
namespace Sys2Proof.Machine

/-! ## What blocks an entry (R25, R26) -/

/-- The older entry `o` keeps `e` from being eligible: it has not ended its array work, and it names the line of `e` or
is a FENCE of its slot (R25, R26). -/
def Entry.Blocks (o e : Entry) : Prop :=
  o.state ≠ .replyWait ∧ ((∃ address : Nat, o.kind.address = some address ∧ e.kind.address = some address) ∨
    (o.kind = .fence ∧ o.key.slot = e.key.slot))

theorem sameLine_iff (o e : Entry) :
    sameLine o e = true ↔ ∃ address : Nat, o.kind.address = some address ∧ e.kind.address = some address := by
  cases ho : o.kind.address with
  | none => simp [sameLine, ho]
  | some address =>
    simp only [sameLine, ho, Option.isSome_some, Bool.true_and, beq_iff_eq, Option.some.injEq, exists_eq_left']
    exact eq_comm

theorem blocked_iff (older : List Entry) (e : Entry) : blocked older e = true ↔ ∃ o ∈ older, o.Blocks e := by
  simp [blocked, Entry.ended, Entry.Blocks, sameLine_iff]

theorem not_blocks_iff (o e : Entry) :
    ¬ o.Blocks e ↔ (o.state ≠ .replyWait →
      (∀ address : Nat, ¬ (o.kind.address = some address ∧ e.kind.address = some address)) ∧
      ¬ (o.kind = .fence ∧ o.key.slot = e.key.slot)) := by
  rw [Entry.Blocks, not_and, not_or, not_exists]

/-! ## The walk through the table (R45) -/

theorem Entry.inQueue_iff_of_queued {e : Entry} (h : e.state = .queued) (a : LaneId) :
    e.inQueue a = true ↔ ∃ l : Location, e.location = some l ∧ l.lane = a := by
  simp [Entry.inQueue, h, Option.any_eq_true]

theorem mem_eligibleFrom_cons (a : LaneId) (older : List Entry) (e x : Entry) (rest : List Entry) :
    x ∈ eligibleFrom a older (e :: rest) ↔
      (x = e ∧ e.state = .queued ∧ e.inQueue a = true ∧ blocked older e = false) ∨
        x ∈ eligibleFrom a (e :: older) rest := by
  rw [eligibleFrom]
  split
  · next h =>
    obtain ⟨⟨hst, hqueue⟩, hfree⟩ : (e.state = .queued ∧ e.inQueue a = true) ∧ blocked older e = false := by
      simpa using h
    simp [hst, hqueue, hfree]
  · next h =>
    have hnot : ¬ (e.state = .queued ∧ e.inQueue a = true ∧ blocked older e = false) := by simpa using h
    simp [hnot]

/-- The walk finds an entry of `rest` exactly when it is QUEUED in the lane and blocked neither by the entries that the
walk starts behind nor by those it has passed. -/
theorem mem_eligibleFrom_iff (a : LaneId) (x : Entry) : ∀ rest older : List Entry,
    x ∈ eligibleFrom a older rest ↔ ∃ before after : List Entry, rest = before ++ x :: after ∧ x.state = .queued ∧
      x.inQueue a = true ∧ (∀ o ∈ older, ¬ o.Blocks x) ∧ ∀ o ∈ before, ¬ o.Blocks x
  | [], older => by simp [eligibleFrom]
  | e :: rest, older => by
    have hfree : blocked older e = false ↔ ∀ o ∈ older, ¬ o.Blocks e := by
      rw [← Bool.not_eq_true, blocked_iff]
      simp
    rw [mem_eligibleFrom_cons, mem_eligibleFrom_iff a x rest (e :: older), hfree]
    constructor
    · rintro (⟨rfl, hst, hqueue, holder⟩ | ⟨before, after, rfl, hst, hqueue, holder, hbefore⟩)
      · exact ⟨[], rest, rfl, hst, hqueue, holder, by simp⟩
      · obtain ⟨he, holder⟩ := List.forall_mem_cons.mp holder
        exact ⟨e :: before, after, rfl, hst, hqueue, holder, List.forall_mem_cons.mpr ⟨he, hbefore⟩⟩
    · rintro ⟨before, after, hrest, hst, hqueue, holder, hbefore⟩
      cases before with
      | nil =>
        obtain ⟨rfl, rfl⟩ := List.cons.inj hrest
        exact Or.inl ⟨rfl, hst, hqueue, holder⟩
      | cons b before =>
        obtain ⟨rfl, rfl⟩ := List.cons.inj hrest
        obtain ⟨he, hbefore⟩ := List.forall_mem_cons.mp hbefore
        exact Or.inr ⟨before, after, rfl, hst, hqueue, List.forall_mem_cons.mpr ⟨he, holder⟩, hbefore⟩

theorem eligibleFrom_sublist (a : LaneId) : ∀ rest older : List Entry, (eligibleFrom a older rest).Sublist rest
  | [], _ => List.Sublist.refl []
  | e :: rest, older => by
    rw [eligibleFrom]
    split
    · exact (eligibleFrom_sublist a rest _).cons_cons e
    · exact (eligibleFrom_sublist a rest _).cons e

/-- Settles O41, by the walk through the table from its oldest entry. -/
theorem eligibleEntriesAreTheUnblockedQueuedOnes : Obligations.EligibleEntriesAreTheUnblockedQueuedOnes := by
  refine fun s a => ⟨fun e => ?_, eligibleFrom_sublist a s.table []⟩
  rw [State.eligible, mem_eligibleFrom_iff]
  refine exists_congr fun older => exists_congr fun younger => and_congr_right fun _ => and_congr_right fun hst => ?_
  simp only [Entry.inQueue_iff_of_queued hst, not_blocks_iff, List.not_mem_nil, false_imp_iff, implies_true, true_and]

end Sys2Proof.Machine
end

section
/-!
PROOFS. The decision of a lane's scheduler, test by test (O42).
-/
namespace Sys2Proof.Machine

/-! ## The settings and conditions that the tests read (R51, R54, R56) -/

theorem State.closesIdle_iff (s : State) (a : LaneId) :
    s.closesIdle a = true ↔
      1 ≤ (s.lane a).debt ∨ s.prf.staged.isSome = true ∨ s.stc.device = .resting ∨ s.releasePolicy = true := by
  simp [State.closesIdle, or_assoc]

theorem State.pullIn_iff (s : State) : s.pullIn = true ↔ s.stc.device = .ready ∧ s.prf.staged = none := by
  simp [State.pullIn]

/-! ## The decision by the lane's state and forced flag (R48 to R50, R55) -/

theorem decision_of_not_idle {s : State} {a : LaneId} (h : (s.lane a).state.idle = false) : s.decision a = .stay := by
  unfold State.decision
  cases hst : (s.lane a).state <;> simp_all [LaneState.idle]

theorem decision_of_held {s : State} {a : LaneId} {p : PageName} (h : (s.lane a).state = .held p) :
    s.decision a = if (s.lane a).forced then .close else s.decideHeld a p := by
  simp only [State.decision, h]

theorem decision_of_closed {s : State} {a : LaneId} (h : (s.lane a).state = .closed) :
    s.decision a = if (s.lane a).forced then .restore else s.decideClosed a := by
  simp only [State.decision, h]

/-! ## The tests in HELD (R51 to R54) -/

theorem decideHeld_of_empty {s : State} {a : LaneId} (h : s.eligible a = []) (p : PageName) :
    s.decideHeld a p = if s.closesIdle a then .close else .stay := by
  simp only [State.decideHeld, h]

theorem keysBefore_append {h : Entry} (after : List Entry) : ∀ {before : List Entry}, (∀ e ∈ before, e.key ≠ h.key) →
    keysBefore h.key (before ++ h :: after) = before.map (·.key)
  | [], _ => if_pos rfl
  | e :: before, hne => by
    obtain ⟨he, hbefore⟩ := List.forall_mem_cons.mp hne
    rw [List.cons_append, keysBefore, if_neg he, keysBefore_append after hbefore, List.map_cons]

section
variable {s : State} {a : LaneId} {p : PageName} {o : Entry} {es : List Entry}

theorem decideHeld_of_oldest_targets (hE : s.eligible a = o :: es) (ht : s.targetOf o = some p) :
    s.decideHeld a p = .serve o.key [] := by
  simp only [State.decideHeld, hE, if_pos ht]

theorem decideHeld_of_age_cap (hE : s.eligible a = o :: es) (ht : s.targetOf o ≠ some p)
    (hcap : s.atAgeCap o.passes = true) : s.decideHeld a p = .close := by
  simp only [State.decideHeld, hE, if_neg ht, if_pos hcap]

/-- Below the age cap the choice is among the entries behind the oldest (R52, R53). -/
theorem decideHeld_of_oldest_passed (hE : s.eligible a = o :: es) (ht : s.targetOf o ≠ some p)
    (hcap : s.atAgeCap o.passes = false) :
    s.decideHeld a p = (es.find? (fun e => s.targetOf e == some p)).elim .close
      (fun h => .serve h.key (keysBefore h.key (o :: es))) := by
  simp only [State.decideHeld, hE, if_neg ht, hcap, List.find?_cons, beq_eq_false_iff_ne.mpr ht]
  cases es.find? (fun e => s.targetOf e == some p) <;> rfl

theorem decideHeld_of_no_target (hE : s.eligible a = o :: es) (ht : s.targetOf o ≠ some p)
    (hcap : s.atAgeCap o.passes = false) (hnone : ∀ e ∈ es, s.targetOf e ≠ some p) : s.decideHeld a p = .close := by
  rw [decideHeld_of_oldest_passed hE ht hcap, List.find?_eq_none.mpr fun e he => by simpa using hnone e he]
  rfl

theorem decideHeld_of_first_target {before after : List Entry} {h : Entry}
    (hE : s.eligible a = o :: (before ++ h :: after)) (ht : s.targetOf o ≠ some p) (hcap : s.atAgeCap o.passes = false)
    (hh : s.targetOf h = some p) (hbefore : ∀ e ∈ before, s.targetOf e ≠ some p)
    (hkeys : ((o :: (before ++ h :: after)).map (·.key)).Nodup) :
    s.decideHeld a p = .serve h.key (o.key :: before.map (·.key)) := by
  have hfind : (before ++ h :: after).find? (fun e => s.targetOf e == some p) = some h :=
    List.find?_eq_some_iff_append.mpr ⟨by simpa using hh, before, after, rfl, fun e he => by simpa using hbefore e he⟩
  have hne : ∀ e ∈ o :: before, e.key ≠ h.key := by
    rw [← List.cons_append, List.map_append, List.nodup_append] at hkeys
    obtain ⟨-, -, hdisjoint⟩ := hkeys
    exact fun e he => hdisjoint e.key (List.mem_map_of_mem he) h.key (by simp)
  rw [decideHeld_of_oldest_passed hE ht hcap, hfind]
  exact congrArg _ (keysBefore_append after hne)

end

/-! ## The tests in CLOSED (R55, R56) -/

theorem decideClosed_of_oldest {s : State} {a : LaneId} {o : Entry} {es : List Entry} {p : PageName}
    (hE : s.eligible a = o :: es) (ht : s.targetOf o = some p) : s.decideClosed a = .openPage p := by
  simp only [State.decideClosed, hE, ht, Option.elim]

theorem decideClosed_of_empty {s : State} {a : LaneId} (hE : s.eligible a = []) :
    s.decideClosed a = if 1 ≤ (s.lane a).debt then .restore
      else if -1 ≤ (s.lane a).debt ∧ s.pullIn = true then .restore else .stay := by
  simp only [State.decideClosed, hE]

/-- Settles O42: the tests of section 3.4 in their order. -/
theorem schedulerDecidesByTheFirstTestThatHolds : Obligations.SchedulerDecidesByTheFirstTestThatHolds := by
  intro s a
  dsimp only
  refine ⟨decision_of_not_idle, fun p hheld => ?_, fun hclosed => ?_⟩
  · rw [decision_of_held hheld]
    refine ⟨fun hf => if_pos hf, fun hf => ?_⟩
    rw [if_neg (Bool.eq_false_iff.mp hf)]
    refine ⟨fun o es hE => ⟨decideHeld_of_oldest_targets hE, decideHeld_of_age_cap hE, fun ht hcap =>
      ⟨decideHeld_of_no_target hE ht hcap, fun before after h hes hh hbefore hkeys => ?_⟩⟩, fun hE => ?_⟩
    · subst hes
      exact decideHeld_of_first_target hE ht hcap hh hbefore hkeys
    · rw [decideHeld_of_empty hE]
      refine ⟨fun h => if_pos ((s.closesIdle_iff a).mpr h), fun hdebt hstaged hdevice hpolicy => if_neg fun h => ?_⟩
      rcases (s.closesIdle_iff a).mp h with h | h | h | h
      · exact absurd h (not_le.mpr hdebt)
      · simp [hstaged] at h
      · exact hdevice h
      · simp [hpolicy] at h
  · rw [decision_of_closed hclosed]
    refine ⟨fun hf => if_pos hf, fun hf => ?_⟩
    rw [if_neg (Bool.eq_false_iff.mp hf)]
    refine ⟨fun o es p hE => decideClosed_of_oldest hE, fun hE => ?_⟩
    simp only [decideClosed_of_empty hE, s.pullIn_iff]
    refine ⟨fun h => if_pos h, fun hlow hhigh => ?_, fun h => ?_⟩
    · rw [if_neg (by omega)]
      refine ⟨fun hready hstaged => if_pos ⟨hlow, hready, hstaged⟩, fun h => if_neg ?_⟩
      rintro ⟨-, hready, hstaged⟩
      rcases h with h | h
      · exact h hready
      · simp [hstaged] at h
    · rw [if_neg (by omega), if_neg (by omega)]

end Sys2Proof.Machine
end

section
/-!
PROOFS. The target page of an entry, and its service with ITG's decision at the selection of a WRITE (O44).
-/
namespace Sys2Proof

theorem Eight.set_get {α : Type} (v : Eight α) (i : Fin 8) : v.set i (v.get i) = v := by
  fin_cases i <;> rfl

theorem Eight.set_set {α : Type} (v : Eight α) (i : Fin 8) (x y : α) : (v.set i x).set i y = v.set i y := by
  fin_cases i <;> rfl

namespace Machine

/-! ## Settings of the active profile (R51, R54, R12) -/

theorem State.atAgeCap_iff (s : State) (passes : Nat) :
    s.atAgeCap passes = true ↔ ∃ q : Profile, s.prf.active = some q ∧ q.ageCap ≤ passes := by
  simp [State.atAgeCap, Option.any_eq_true]

theorem State.releasePolicy_iff (s : State) :
    s.releasePolicy = true ↔ ∃ q : Profile, s.prf.active = some q ∧ q.policy = .release := by
  simp [State.releasePolicy, Option.any_eq_true]

theorem State.writeBackOn_iff (s : State) :
    s.writeBackOn = true ↔ ∃ q : Profile, s.prf.active = some q ∧ q.writeBack = true := by
  simp [State.writeBackOn, Option.any_eq_true]

/-! ## The remap table with a location mapped (R90, R91) -/

theorem EntryKind.isWrite_iff (kind : EntryKind) :
    kind.isWrite = true ↔ ∃ (address : Nat) (data : List Byte), kind = .write address data := by
  cases kind <;> simp [EntryKind.isWrite]

theorem Lane.remapOf_eq_none_iff (l : Lane) (loc : Location) :
    l.remapOf loc = none ↔ ∀ r ∈ l.remaps, ¬ (r.page = loc.page ∧ r.line = loc.line) := by
  rw [← Option.not_isSome_iff_eq_none, Lane.remapOf_isSome_iff, not_exists]
  simp only [not_and]

theorem putRemap_of_none {loc : Location} (f : SpareId) : ∀ {rs : List Remap},
    (∀ r ∈ rs, ¬ (r.page = loc.page ∧ r.line = loc.line)) →
    putRemap loc f rs = rs ++ [{ page := loc.page, line := loc.line, spare := f }]
  | [], _ => rfl
  | r :: rs, h => by
    obtain ⟨hr, hrs⟩ := List.forall_mem_cons.mp h
    rw [putRemap, if_neg hr, putRemap_of_none f hrs, List.cons_append]

/-- A location with a record keeps it in its place (R90). -/
theorem putRemap_places {loc : Location} (f : SpareId) : ∀ {rs : List Remap},
    (∃ r ∈ rs, r.page = loc.page ∧ r.line = loc.line) →
    (putRemap loc f rs).map (fun r => (r.page, r.line)) = rs.map (fun r => (r.page, r.line))
  | [], h => by simp at h
  | r :: rs, h => by
    rw [putRemap]
    split
    · rfl
    · next hr =>
      obtain ⟨x, hx, hloc⟩ := h
      have hrs : x ∈ rs := (List.mem_cons.mp hx).resolve_left fun hxr => hr (hxr ▸ hloc)
      rw [List.map_cons, List.map_cons, putRemap_places f ⟨x, hrs, hloc⟩]

theorem Lane.remap_remapOf_same (l : Lane) (loc : Location) (f : SpareId) : (l.remap loc f).remapOf loc = some f := by
  change ((putRemap loc f l.remaps).find? _).map _ = _
  induction l.remaps with
  | nil => simp [putRemap]
  | cons r rs ih =>
    rw [putRemap]
    split
    · next h => simp [h]
    · next h => rw [List.find?_cons_of_neg (by simpa using h), ih]

theorem Lane.remap_remapOf_other (l : Lane) {loc m : Location} (f : SpareId)
    (h : m.page ≠ loc.page ∨ m.line ≠ loc.line) : (l.remap loc f).remapOf m = l.remapOf m := by
  have hm {r : Remap} (hr : r.page = loc.page ∧ r.line = loc.line) :
      (r.page == m.page && r.line == m.line) = false := by
    rcases h with h | h <;> simp [hr, Ne.symm h]
  change ((putRemap loc f l.remaps).find? _).map _ = (l.remaps.find? _).map _
  induction l.remaps with
  | nil =>
    simp only [putRemap, List.find?_cons, hm (r := ⟨loc.page, loc.line, f⟩) ⟨rfl, rfl⟩]
  | cons r rs ih =>
    rw [putRemap]
    split
    · next hr => simp only [List.find?_cons, hm hr]
    · rw [List.find?_cons, List.find?_cons]
      split
      · rfl
      · exact ih

theorem Lane.remap_spares_get (l : Lane) (loc : Location) (f j : SpareId) :
    (l.remap loc f).spares.get j =
      if j = f then .inUse else if l.remapOf loc = some j then .retired else l.spares.get j := by
  have hset {v : Eight SpareState} {i : SpareId} {x : SpareState} :
      (v.set i x).get j = if j = i then x else v.get j := by
    split
    · next h => rw [h, Eight.get_set_same]
    · next h => exact Eight.get_set_other _ _ _ _ h
  unfold Lane.remap
  rw [hset]
  congr 1
  cases l.remapOf loc with
  | none => rfl
  | some old => simp only [hset, Option.some.injEq, eq_comm]

/-! ## ITG's decision at a selection (R46, R91, R92) -/

/-- The spare line that the selection of an entry takes: the lowest FREE one, for a WRITE at a suspect location with
remapping ON (R91). -/
def State.taken (s : State) (isWrite : Bool) (loc : Location) : Option SpareId :=
  if isWrite && s.suspect loc && s.remappingOn then (s.lane loc.lane).lowestFree else none

/-- Whether the selection of an entry finds no spare line to take (R92). -/
def State.exhausts (s : State) (isWrite : Bool) (loc : Location) : Bool :=
  isWrite && s.suspect loc && s.remappingOn && (s.lane loc.lane).lowestFree.isNone

/-- The spare line that stands for the location once an entry there is selected, if any. -/
def State.names (s : State) (isWrite : Bool) (loc : Location) : Option SpareId :=
  (s.taken isWrite loc).or ((s.lane loc.lane).remapOf loc)

/-- The record of the location's lane after the selection of an entry (R91, R92). -/
def State.selectedLane (s : State) (isWrite : Bool) (loc : Location) : Lane :=
  match s.taken isWrite loc with
  | some i => (s.lane loc.lane).remap loc i
  | none => { s.lane loc.lane with exhausted := (s.lane loc.lane).exhausted || s.exhausts isWrite loc }

/-- The state after ITG's decision at the selection of entry `k`, field by field (`selection_eq`). -/
def State.selected (s : State) (isWrite : Bool) (k : EntryKey) (loc : Location) : State :=
  { s with
    table := s.table.map (fun x =>
      if x.key = k then { x with remapped := x.remapped || (s.taken isWrite loc).isSome } else x)
    lanes := s.lanes.set loc.lane (s.selectedLane isWrite loc)
    itg := if (s.taken isWrite loc).isSome then
        { s.itg with suspects := s.itg.suspects.filter (fun r => r.location ≠ loc) } else s.itg
    snu := if s.exhausts isWrite loc && !(s.lane loc.lane).exhausted then
        (postNotice (.sparesExhausted loc.lane) s).snu else s.snu }

theorem postNotice_snu_congr {n : Notice} {s t : State} (hprf : t.prf = s.prf) (hsnu : t.snu = s.snu) :
    (postNotice n t).snu = (postNotice n s).snu := by
  have henabled : t.noticeEnabled n = s.noticeEnabled n := by rw [State.noticeEnabled, State.noticeEnabled, hprf]
  unfold postNotice
  rw [henabled, hsnu]
  split
  · split <;> rfl
  · exact hsnu

section
variable {s : State} {isWrite : Bool} {loc : Location}

theorem State.taken_isSome : (s.taken isWrite loc).isSome =
    (isWrite && s.suspect loc && s.remappingOn && (s.lane loc.lane).lowestFree.isSome) := by
  unfold State.taken
  cases isWrite && s.suspect loc && s.remappingOn <;> rfl

theorem State.taken_of_isSome (h : (s.taken isWrite loc).isSome = true) :
    s.taken isWrite loc = (s.lane loc.lane).lowestFree := by
  unfold State.taken at h ⊢
  split
  · rfl
  · next hc => rw [if_neg hc] at h; cases h

theorem State.names_eq : s.names isWrite loc =
    if (s.taken isWrite loc).isSome then (s.lane loc.lane).lowestFree else (s.lane loc.lane).remapOf loc := by
  unfold State.names
  split
  · next h =>
    rw [← State.taken_of_isSome h]
    obtain ⟨i, hi⟩ := Option.isSome_iff_exists.mp h
    rw [hi, Option.some_or]
  · next h => rw [Option.not_isSome_iff_eq_none.mp h, Option.none_or]

/-- An entry's target is SPARE exactly when a spare line stands for its location once it is selected (R46, R91). -/
theorem State.target_eq : s.target isWrite loc =
    if (s.names isWrite loc).isSome then .spareRow else .page loc.page := by
  unfold State.target State.names State.wouldRemap
  rw [Option.isSome_or, State.taken_isSome, Bool.or_comm, ← Bool.and_assoc, ← Bool.and_assoc]

theorem State.target_eq_spareRow_iff :
    s.target isWrite loc = .spareRow ↔ (s.names isWrite loc).isSome = true := by
  rw [State.target_eq]
  by_cases h : (s.names isWrite loc).isSome = true <;> simp [h]

theorem State.selectedLane_of_taken {i : SpareId} (h : s.taken isWrite loc = some i) :
    s.selectedLane isWrite loc = (s.lane loc.lane).remap loc i := by
  unfold State.selectedLane
  rw [h]

theorem State.selectedLane_of_none (h : s.taken isWrite loc = none) : s.selectedLane isWrite loc =
    { s.lane loc.lane with exhausted := (s.lane loc.lane).exhausted || s.exhausts isWrite loc } := by
  unfold State.selectedLane
  rw [h]

theorem State.selectedLane_remapOf : (s.selectedLane isWrite loc).remapOf loc = s.names isWrite loc := by
  unfold State.names
  cases h : s.taken isWrite loc with
  | none => rw [State.selectedLane_of_none h]; rfl
  | some i => rw [State.selectedLane_of_taken h, Lane.remap_remapOf_same, Option.some_or]

theorem State.selectedLane_exhausted : (s.selectedLane isWrite loc).exhausted =
    ((s.lane loc.lane).exhausted || s.exhausts isWrite loc) := by
  cases h : s.taken isWrite loc with
  | none => rw [State.selectedLane_of_none h]
  | some i =>
    have hfree : (s.lane loc.lane).lowestFree = some i := by rw [← State.taken_of_isSome (by rw [h]; rfl), h]
    rw [State.selectedLane_of_taken h, State.exhausts, hfree, Option.isNone_some, Bool.and_false, Bool.or_false]
    rfl

theorem State.set_lane_self (s : State) (a : LaneId) : s.lanes.set a (s.lane a) = s.lanes := Eight.set_get _ _

/-- Where nothing is asked of ITG, the selection changes nothing. -/
theorem State.selected_of_not (k : EntryKey) (h : (isWrite && s.suspect loc && s.remappingOn) = false) :
    s.selected isWrite k loc = s := by
  have htaken : s.taken isWrite loc = none := by simp [State.taken, h]
  have hexhausts : s.exhausts isWrite loc = false := by simp [State.exhausts, h]
  have hlane : s.selectedLane isWrite loc = s.lane loc.lane := by
    rw [State.selectedLane_of_none htaken, hexhausts, Bool.or_false]
  simp [State.selected, htaken, hexhausts, hlane, State.set_lane_self]

/-- Of a suspect WRITE with remapping ON, `selectWrite` takes the lowest FREE spare or marks the lane. -/
theorem selectWrite_eq_selected (k : EntryKey) (loc : Location) (s : State) :
    selectWrite k loc s = s.selected true k loc := by
  unfold selectWrite
  split
  · next hon =>
    split
    · next i hi =>
      have htaken : s.taken true loc = some i := by simp [State.taken, hon, hi]
      have hexhausts : s.exhausts true loc = false := by simp [State.exhausts, hi]
      simp [State.selected, State.selectedLane_of_taken htaken, htaken, hexhausts, State.onEntry, bne, beq_eq_decide]
    · next hi =>
      have htaken : s.taken true loc = none := by simp [State.taken, hi]
      have hexhausts : s.exhausts true loc = true := by simp [State.exhausts, hon, hi]
      split
      · next hmark =>
        have hlane : s.selectedLane true loc = s.lane loc.lane := by
          rw [State.selectedLane_of_none htaken, hmark, Bool.true_or, ← hmark]
        simp [State.selected, htaken, hlane, hmark, State.set_lane_self]
      · next hmark =>
        rw [postNotice_eq, postNotice_snu_congr (t := s.setLane _ _) (s := s) rfl rfl]
        simp [State.selected, State.selectedLane_of_none htaken, htaken, hexhausts, hmark, State.setLane]
  · next hoff => exact (State.selected_of_not k (by simpa using hoff)).symm

theorem selection_eq (isWrite : Bool) (k : EntryKey) (loc : Location) (s : State) :
    (if isWrite then selectWrite k loc s else s) = s.selected isWrite k loc := by
  cases isWrite with
  | true => exact selectWrite_eq_selected k loc s
  | false => exact (State.selected_of_not k rfl).symm

end

/-! ## The service of an entry (R57) -/

/-- The line that the first phase of a selected entry reaches: the spare line that stands for its location, else the
line of the location (R7, R11). -/
def State.line (s : State) (isWrite : Bool) (loc : Location) : ArrayLine :=
  match s.names isWrite loc with
  | some i => .spare loc.lane i
  | none => .host loc

/-- In the target page of an entry its phase reaches that line. -/
theorem reach_target {s u : State} {isWrite : Bool} {loc : Location}
    (h : (u.lane loc.lane).remapOf loc = s.names isWrite loc) :
    u.reach (s.target isWrite loc) loc = s.line isWrite loc := by
  rw [State.target_eq, State.line]
  cases hn : s.names isWrite loc with
  | none => rfl
  | some i => simp [State.reach, h, hn]

/-- The state after the service of entry `k` in its target page, field by field (`serve_eq_served`). -/
def State.served (s : State) (kind : EntryKind) (k : EntryKey) (passed : List EntryKey) (loc : Location) : State :=
  { s with
    table := s.table.map (fun x =>
      if x.key = k then { x with state := .active, remapped := x.remapped || (s.taken kind.isWrite loc).isSome }
      else if x.key ∈ passed then x.pass else x)
    lanes := s.lanes.set loc.lane { s.selectedLane kind.isWrite loc with
      state := .access (s.target kind.isWrite loc) k kind.firstPhase (s.line kind.isWrite loc) }
    itg := (s.selected kind.isWrite k loc).itg
    snu := (s.selected kind.isWrite k loc).snu }

theorem serve_eq_served {s : State} {e : Entry} {loc : Location} {passed : List EntryKey}
    (he : s.entry e.key = some e) (hloc : e.location = some loc) (hpassed : e.key ∉ passed) :
    serve loc.lane (s.target e.kind.isWrite loc) e.key passed s = s.served e.kind e.key passed loc := by
  let u := (raisePasses passed s).selected e.kind.isWrite e.key loc
  have hserve : serve loc.lane (s.target e.kind.isWrite loc) e.key passed s = { s with
      table := (u.onEntry e.key (fun x => { x with state := .active })).table
      lanes := u.lanes.set loc.lane { u.lane loc.lane with
        state := .access (s.target e.kind.isWrite loc) e.key e.kind.firstPhase
          (u.reach (s.target e.kind.isWrite loc) loc) }
      itg := u.itg, snu := u.snu } := by
    unfold serve
    simp only [he, hloc, selection_eq]
    rfl
  have htable : (u.onEntry e.key (fun x => { x with state := .active })).table =
      (s.served e.kind e.key passed loc).table := by
    simp only [u, State.onEntry_table, State.selected, raisePasses, State.served, List.map_map]
    refine List.map_congr_left fun x _ => ?_
    by_cases hx : x.key = e.key
    · simp only [Function.comp, hx, hpassed, if_false, if_true]
      rfl
    · by_cases hp : x.key ∈ passed <;> simp [hx, hp, Entry.pass]
  have hlane : u.lane loc.lane = s.selectedLane e.kind.isWrite loc := Eight.get_set_same _ _ _
  have hlanes (l : Lane) : u.lanes.set loc.lane l = s.lanes.set loc.lane l := Eight.set_set _ _ _ _
  have hreach : u.reach (s.target e.kind.isWrite loc) loc = s.line e.kind.isWrite loc :=
    reach_target (by rw [hlane, State.selectedLane_remapOf])
  have hsnu : u.snu = (s.selected e.kind.isWrite e.key loc).snu := by
    have hpost : (postNotice (.sparesExhausted loc.lane) (raisePasses passed s)).snu =
      (postNotice (.sparesExhausted loc.lane) s).snu := postNotice_snu_congr rfl rfl
    simp only [u, State.selected, hpost]
    rfl
  rw [hserve, htable, hlane, hlanes, hreach, hsnu]
  rfl

/-! ## The target page (R46, R7) -/

theorem State.names_isSome_iff (s : State) (kind : EntryKind) (loc : Location) :
    (s.names kind.isWrite loc).isSome = true ↔
      (∃ r ∈ (s.lane loc.lane).remaps, r.page = loc.page ∧ r.line = loc.line) ∨
        ((∃ (address : Nat) (data : List Byte), kind = .write address data) ∧
          (∃ r ∈ s.itg.suspects, r.location = loc) ∧
          (∃ q : Profile, s.prf.active = some q ∧ q.remapping = true) ∧
          ∃ i : SpareId, (s.lane loc.lane).spares.get i = .free) := by
  unfold State.names
  rw [Option.isSome_or, State.taken_isSome]
  simp only [Bool.or_eq_true, Bool.and_eq_true, Lane.remapOf_isSome_iff, EntryKind.isWrite_iff, State.suspect_iff,
    State.remappingOn_iff, Lane.lowestFree_isSome_iff, and_assoc, or_comm]

theorem State.targetOf_eq {s : State} {e : Entry} {loc : Location} (h : e.location = some loc) :
    s.targetOf e = some (s.target e.kind.isWrite loc) := by
  rw [State.targetOf, h, Option.map_some]

theorem State.entry_of_only {s : State} {e : Entry} (h : s.table.filter (fun x => x.key == e.key) = [e]) :
    s.entry e.key = some e := by
  rw [State.entry, ← List.head?_filter, h, List.head?_cons]

/-- Settles O44: the fields of `State.served`, read by whether the selection takes a spare line, finds none, or asks for
none. -/
theorem servingAnEntryAndRemappingAtItsSelection : Obligations.ServingAnEntryAndRemappingAtItsSelection := by
  refine ⟨fun s => ⟨s.atAgeCap_iff, s.releasePolicy_iff, s.writeBackOn_iff, s.remappingOn_iff⟩,
    fun s e => ⟨fun h => by rw [State.targetOf, h, Option.map_none], fun loc hloc => ?_⟩, ?_⟩
  · intro l spare
    have hspare : (s.names e.kind.isWrite loc).isSome = true ↔ spare := s.names_isSome_iff e.kind loc
    rw [State.targetOf_eq hloc, State.target_eq, ← hspare]
    exact ⟨fun h => by rw [if_pos h], fun h => by rw [if_neg h]⟩
  · intro a p e loc passed s honly hloc ha hpassed htarget t f old remapped
    subst ha
    obtain rfl : s.target e.kind.isWrite loc = p := Option.some.inj ((State.targetOf_eq hloc).symm.trans htarget)
    have ht : t = s.served e.kind e.key passed loc := serve_eq_served (State.entry_of_only honly) hloc hpassed
    have hremapped : (s.taken e.kind.isWrite loc).isSome = remapped := State.taken_isSome
    have hnames : s.names e.kind.isWrite loc = if remapped then f else old := hremapped ▸ State.names_eq
    have hlane : t.lane loc.lane = { s.selectedLane e.kind.isWrite loc with
      state := .access (s.target e.kind.isWrite loc) e.key e.kind.firstPhase (s.line e.kind.isWrite loc) } := by
        rw [ht]
        exact Eight.get_set_same _ _ _
    refine ⟨?_, ?_, fun hp => ?_, fun hp => ?_, fun hr => ?_, fun i hr hf => ?_, ?_, fun b hb => ?_, ?_⟩
    · rw [ht, ← hremapped]
      rfl
    · rw [hlane, ← hnames]
      rfl
    · have hnone : s.names e.kind.isWrite loc = none :=
        Option.not_isSome_iff_eq_none.mp fun h => hp (State.target_eq_spareRow_iff.mpr h)
      obtain ⟨htaken, hold⟩ := Option.or_eq_none_iff.mp hnone
      refine ⟨?_, ?_, hold⟩
      · rw [State.target_eq, hnone]
        rfl
      · rw [← hremapped, htaken]
        rfl
    · rw [← hnames]
      exact State.target_eq_spareRow_iff.mp hp
    · have hnot : ¬ (s.taken e.kind.isWrite loc).isSome = true := Bool.eq_false_iff.mp (hremapped.trans hr)
      rw [hlane, State.selectedLane_of_none (Option.not_isSome_iff_eq_none.mp hnot), ht]
      exact ⟨rfl, rfl, if_neg hnot⟩
    · have hsome : (s.taken e.kind.isWrite loc).isSome = true := hremapped.trans hr
      have htaken : s.taken e.kind.isWrite loc = some i := (State.taken_of_isSome hsome).trans hf
      rw [hlane, State.selectedLane_of_taken htaken, ht]
      exact ⟨Lane.remap_spares_get _ loc i, Lane.remap_remapOf_same _ loc i,
        fun m hm => Lane.remap_remapOf_other _ i hm,
        fun hold => putRemap_of_none i ((Lane.remapOf_eq_none_iff _ _).mp hold),
        fun hold => putRemap_places i ((Lane.remapOf_isSome_iff _ _).mp hold), if_pos hsome⟩
    · intro exhausted
      rw [hlane, ht]
      exact ⟨State.selectedLane_exhausted, rfl⟩
    · rw [ht]
      exact Eight.get_set_other _ _ _ _ hb
    · rw [ht]
      exact ⟨rfl, rfl, rfl, rfl, rfl, rfl, rfl, rfl⟩

end Machine
end Sys2Proof
end

section
/-!
PROOFS. What a change of the state makes of the debts, of the queues with their places, of the band and of the pins.
`State.Regular s t` compares two states in these respects: one lemma for each block that a change can touch says what the
change owes, and the shared operations are judged by these lemmas, each once.
-/
namespace Sys2Proof.Machine

/-! ## The two invariants, block by block -/

/-- A lane's debt lies in its range, a step runs and a forced flag stands only where they may (R49, R65, R67, R68). -/
def Lane.InRange (l : Lane) : Prop :=
  -2 ≤ l.debt ∧ l.debt ≤ 7 ∧ (l.state = .restoring → -1 ≤ l.debt) ∧ (l.forced = true → 1 ≤ l.debt)

/-- Every profile that PRF holds has a deferral limit of at least 1 (R131). -/
def Profiles.Positive (p : Profiles) : Prop :=
  positiveDeferral p.active ∧ positiveDeferral p.staged ∧ positiveDeferral p.processing

/-- LNK's queues are within their places, and the sender's stall count, mode and timer agree (R148, R154, R156, R158). -/
def Link.WithinPlaces (l : Link) : Prop :=
  l.intake.length ≤ 8 ∧ l.outbound.length ≤ 24 ∧ l.replay.length ≤ 16 ∧ l.stall ≤ 4 ∧
    (l.mode = .running → l.stall ≤ 3) ∧ (l.timer = true → l.mode = .running)

/-- The notice queue is within its places, the lost count within its byte (R175). -/
def Notices.WithinPlaces (n : Notices) : Prop := n.queue.length ≤ 8 ∧ n.lost ≤ 255

theorem State.debtsInRange_iff (s : State) : s.debtsInRange ↔ (∀ a, (s.lane a).InRange) ∧ s.prf.Positive := Iff.rfl

theorem State.withinCapacity_iff (s : State) :
    s.withinCapacity ↔ s.link.WithinPlaces ∧ s.snu.WithinPlaces ∧ s.itg.suspects.length ≤ 16 := by
  unfold Link.WithinPlaces Notices.WithinPlaces
  tauto

/-- Going from `s` to `t` keeps the debts in range and each queue within its places. -/
structure State.Sound (s t : State) : Prop where
  debts : s.debtsInRange → t.debtsInRange
  link : s.link.WithinPlaces → t.link.WithinPlaces
  notices : s.snu.WithinPlaces → t.snu.WithinPlaces
  suspects : s.itg.suspects.length ≤ 16 → t.itg.suspects.length ≤ 16

/-- Going from `s` to `t` is sound and leaves the pins and the temperature band as they are. -/
structure State.Regular (s t : State) : Prop extends State.Sound s t where
  pins : t.pins = s.pins
  band : t.rst.band = s.rst.band

theorem State.Sound.trans {s t u : State} (h : s.Sound t) (k : t.Sound u) : s.Sound u where
  debts hs := k.debts (h.debts hs)
  link hs := k.link (h.link hs)
  notices hs := k.notices (h.notices hs)
  suspects hs := k.suspects (h.suspects hs)

/-- `f` goes from every state to the next regularly. -/
abbrev Regularly (f : State → State) : Prop := ∀ s : State, s.Regular (f s)

theorem State.Regular.refl (s : State) : s.Regular s := ⟨⟨id, id, id, id⟩, rfl, rfl⟩

theorem State.Regular.trans {s t u : State} (h : s.Regular t) (k : t.Regular u) : s.Regular u where
  toSound := h.toSound.trans k.toSound
  pins := k.pins.trans h.pins
  band := k.band.trans h.band

theorem State.Sound.capacity {s t : State} (h : s.Sound t) (hs : s.withinCapacity) : t.withinCapacity := by
  obtain ⟨hlink, hnotices, hsuspects⟩ := s.withinCapacity_iff.mp hs
  exact t.withinCapacity_iff.mpr ⟨h.link hlink, h.notices hnotices, h.suspects hsuspects⟩

/-! ## A change of one block -/

/-- The blocks that neither invariant speaks of can change regularly, and in RST all but the band. -/
theorem regular_blocks (s : State) {pending : List Instr} {waiting : List Waiting} {slots : Four Slot}
    {table : List Entry} {replies : List EntryKey} {timer : Option Period} {reading : Option Int}
    {interval : Option Interval} {stc : Controller} {array : Storage} {draws : Nat} :
    s.Regular { s with
      pending := pending, waiting := waiting, slots := slots, table := table, replies := replies
      rst := { s.rst with timer := timer, lastReading := reading, interval := interval }
      stc := stc, array := array, draws := draws } := ⟨⟨id, id, id, id⟩, rfl, rfl⟩

theorem regular_link {s : State} {l : Link} (h : s.link.WithinPlaces → l.WithinPlaces) :
    s.Regular { s with link := l } := ⟨⟨id, h, id, id⟩, rfl, rfl⟩

theorem regular_notices {s : State} {snu : Notices} (h : s.snu.WithinPlaces → snu.WithinPlaces) :
    s.Regular { s with snu := snu } := ⟨⟨id, id, h, id⟩, rfl, rfl⟩

theorem regular_suspects {s : State} {itg : Integrity} (h : s.itg.suspects.length ≤ 16 → itg.suspects.length ≤ 16) :
    s.Regular { s with itg := itg } := ⟨⟨id, id, id, h⟩, rfl, rfl⟩

theorem regular_profiles {s : State} {prf : Profiles} (h : s.prf.Positive → prf.Positive) :
    s.Regular { s with prf := prf } :=
  ⟨⟨fun hs => have ⟨hlanes, hprf⟩ := s.debtsInRange_iff.mp hs; ⟨hlanes, h hprf⟩, id, id, id⟩, rfl, rfl⟩

/-- The lanes' records changed, each into one in range. -/
theorem regular_lanes {s : State} {lanes : Eight Lane}
    (h : s.prf.Positive → ∀ a, (s.lane a).InRange → (lanes.get a).InRange) : s.Regular { s with lanes := lanes } :=
  ⟨⟨fun hs => have ⟨hlanes, hprf⟩ := s.debtsInRange_iff.mp hs; ⟨fun a => h hprf a (hlanes a), hprf⟩, id, id, id⟩,
    rfl, rfl⟩

/-- Every lane's record changed in one way. -/
theorem regular_mapLanes {s : State} {f : Lane → Lane} (h : s.prf.Positive → ∀ l : Lane, l.InRange → (f l).InRange) :
    s.Regular { s with lanes := s.lanes.map f } :=
  regular_lanes fun hprf a hl => by
    rw [Eight.get_map]
    exact h hprf _ hl

/-- One lane's record changed. -/
theorem regular_setLane {s : State} {a : LaneId} {l : Lane} (h : (s.lane a).InRange → l.InRange) :
    s.Regular (s.setLane a l) :=
  regular_lanes fun _ b hb => by
    by_cases hba : b = a
    · subst hba
      rw [Eight.get_set_same]
      exact h hb
    · rw [Eight.get_set_other _ _ _ _ hba]
      exact hb

/-- A lane in another lane state: a step begins only at a debt of -1 or more (R49). -/
theorem regular_setLaneState {s : State} {a : LaneId} {st : LaneState}
    (h : st = .restoring → (s.lane a).InRange → -1 ≤ (s.lane a).debt) : s.Regular (s.setLaneState a st) :=
  regular_setLane fun hl =>
    have ⟨hlower, hupper, _, hforced⟩ := hl
    ⟨hlower, hupper, fun hst => h hst hl, hforced⟩

/-! ## The sender (R152 to R157) -/

theorem Link.WithinPlaces.choose {l : Link} (h : l.WithinPlaces) : l.choose.WithinPlaces := by
  unfold Link.choose
  split
  · exact h
  · split
    · exact h
    · split
      · exact h
      · next hmode =>
        have hrunning : l.mode = .running := by
          cases hm : l.mode with
          | running => rfl
          | stalled => exact absurd hm hmode
        split
        · split
          · exact h
          · exact h
        · split
          · exact h
          · next m ms hout =>
            split
            · next hroom =>
              obtain ⟨hintake, houtbound, -, hstall, hmoderate, -⟩ := h
              rw [hout, List.length_cons] at houtbound
              refine ⟨hintake, (Nat.le_succ _).trans houtbound, ?_, hstall, hmoderate, fun _ => hrunning⟩
              rw [Link.begin, List.length_append]
              exact hroom
            · exact h

/-- Progress leaves a part of the replay list and no stall (R152). -/
theorem Link.WithinPlaces.progress {l : Link} (h : l.WithinPlaces) {rest : List Sent} (hrest : rest <:+ l.replay) :
    (l.progress rest).WithinPlaces := by
  obtain ⟨hintake, houtbound, hreplay, -⟩ := h
  exact ⟨hintake, houtbound, hrest.length_le.trans hreplay, Nat.zero_le _, fun _ => Nat.zero_le _, fun _ => rfl⟩

theorem Link.WithinPlaces.acknowledge {l : Link} (h : l.WithinPlaces) (k : Byte) : (l.acknowledge k).WithinPlaces := by
  rcases l.acknowledge_cases k with ⟨-, hk⟩ | ⟨-, -, hk⟩ | ⟨-, -, hk⟩ <;> rw [hk]
  · exact h.progress (framesAfter_suffix k l.replay)
  · exact h
  · exact h

theorem Link.WithinPlaces.resendFrom {l : Link} (h : l.WithinPlaces) (n : Byte) : (l.resendFrom n).WithinPlaces := by
  unfold Link.resendFrom
  split
  · exact h.progress (framesFrom_suffix n l.replay)
  · split
    · exact h.progress List.nil_suffix
    · exact h

/-- An expiry stalls the sender at the fourth in a row; the timer runs only while the sender does (R156). -/
theorem Link.WithinPlaces.expire {l : Link} (h : l.WithinPlaces) (ht : l.timer = true) : l.expire.WithinPlaces := by
  obtain ⟨hintake, houtbound, hreplay, -, hrunning, htimer⟩ := h
  have hmode := htimer ht
  have hstall := hrunning hmode
  unfold Link.expire
  extract_lets t
  split
  · next hlt => exact ⟨hintake, houtbound, hreplay, hlt.le, fun _ => Nat.le_of_lt_succ hlt, fun _ => hmode⟩
  · exact ⟨hintake, houtbound, hreplay, Nat.succ_le_succ hstall, nofun, nofun⟩

/-! ## The receiver (R147 to R149) -/

theorem Link.WithinPlaces.discard {l : Link} (h : l.WithinPlaces) (reason : RejectReason) :
    (l.discard reason).WithinPlaces := by
  unfold Link.discard
  split
  · exact h
  · exact h

theorem Link.WithinPlaces.judge {l : Link} (h : l.WithinPlaces) (n : Byte) (m : List Byte) :
    (l.judge n m).WithinPlaces := by
  unfold Link.judge
  extract_lets d
  split
  · split
    · next hroom =>
      obtain ⟨-, hrest⟩ := h
      refine ⟨?_, hrest⟩
      rw [List.length_append]
      exact hroom
    · exact h.discard .full
  · split
    · exact h.discard .order
    · exact h

theorem Link.WithinPlaces.checkFailed {l : Link} (h : l.WithinPlaces) (named : Bool) :
    (l.checkFailed named).WithinPlaces := by
  unfold Link.checkFailed
  split
  · exact h
  · refine Link.WithinPlaces.discard ?_ .crc
    exact h

/-- LNK after a link reset, whatever its counters (R160). -/
theorem Link.withinPlaces_afterReset (counters : LinkCounters) : (Link.afterReset counters).WithinPlaces :=
  ⟨Nat.zero_le _, Nat.zero_le _, Nat.zero_le _, Nat.zero_le _, fun _ => Nat.zero_le _, nofun⟩

theorem regular_onLink {s : State} {f : Link → Link} (h : s.link.WithinPlaces → (f s.link).WithinPlaces) :
    s.Regular (s.onLink f) := regular_link h

theorem regular_kick (s : State) : s.Regular (kick s) := by
  unfold kick
  split
  · exact regular_onLink Link.WithinPlaces.choose
  · exact .refl s

/-- A message enters the outbound queue only while the queue has a free place (R158, R159). -/
theorem regular_enqueue {s : State} (hroom : s.link.outbound.length < 24) (m : Message) : s.Regular (enqueue m s) :=
  regular_link fun ⟨hintake, _, hrest⟩ => by
    refine ⟨hintake, ?_, hrest⟩
    rw [List.length_append]
    exact hroom

theorem regular_depart (s : State) : s.Regular (depart s) :=
  regular_link fun ⟨hintake, hrest⟩ => by
    refine ⟨?_, hrest⟩
    rw [List.length_tail]
    exact (Nat.sub_le _ _).trans hintake

/-! ## Notices and suspects (R83, R175) -/

theorem regular_postNotice (n : Notice) (s : State) : s.Regular (postNotice n s) := by
  rcases postNotice_cases n s with ⟨-, h⟩ | ⟨-, hroom, h⟩ | ⟨-, -, h⟩ <;> rw [h]
  · exact .refl s
  · refine regular_notices fun ⟨_, hlost⟩ => ⟨?_, hlost⟩
    rw [List.length_append]
    exact hroom
  · refine regular_notices fun ⟨hqueue, hlost⟩ => ⟨hqueue, ?_⟩
    dsimp only
    split
    · next hbelow => exact hbelow
    · exact hlost

theorem regular_postNotices (n : LaneId → Notice) (lanes : List LaneId) (s : State) :
    s.Regular (lanes.foldl (fun t a => postNotice (n a) t) s) :=
  keeps_foldl (P := s.Regular) (fun a t h => h.trans (regular_postNotice (n a) t)) lanes s (.refl s)

theorem regular_offerSuspect (loc : Location) (spare : Option SpareId) (s : State) :
    s.Regular (offerSuspect loc spare s) := by
  rcases offerSuspect_cases loc spare s with ⟨-, h⟩ | ⟨-, hroom, h⟩ | ⟨-, -, h⟩ <;> rw [h]
  · exact .refl s
  · refine State.Regular.trans (regular_suspects fun _ => ?_) (regular_postNotice _ _)
    rw [List.length_append]
    exact hroom
  · refine State.Regular.trans ?_ (regular_postNotice _ _)
    exact regular_suspects fun h => h

/-! ## The lanes' records (R63 to R70) -/

/-- The limit in force is at least 1: that of a profile, or 6 (R131, R132). -/
theorem deferral_pos {s : State} (h : s.prf.Positive) : 1 ≤ s.deferral := by
  obtain ⟨hactive, -⟩ := h
  unfold State.deferral
  cases hp : s.prf.active with
  | none => decide
  | some p => simpa [positiveDeferral, hp] using hactive

/-- An expiry takes no debt above 7, and sets a forced flag at a debt of 1 or more only (R63, R67). -/
theorem Lane.InRange.expire {l : Lane} (h : l.InRange) {deferral : Nat} (hd : 1 ≤ deferral) :
    (l.expire deferral).InRange := by
  obtain ⟨hlower, hupper, hstep, hforced⟩ := h
  unfold Lane.expire
  split
  · next hlt =>
    have hrise : l.debt ≤ l.debt + 1 := by omega
    refine ⟨hlower.trans hrise, hlt, fun hst => (hstep hst).trans hrise, fun hf => ?_⟩
    rcases Bool.or_eq_true_iff.mp hf with hset | hset
    · exact (hforced hset).trans hrise
    · exact (Int.ofNat_le.mpr hd).trans (of_decide_eq_true hset)
  · exact ⟨hlower, hupper, hstep, hforced⟩

/-- The debt of a step that runs is at least -1, and a flag that stays set stands above the clearing level (R65, R68). -/
theorem Lane.InRange.stepDone {l : Lane} (h : l.InRange) (hl : l.state = .restoring) (deferral : Nat) :
    (l.stepDone deferral).InRange := by
  obtain ⟨-, hupper, hstep, -⟩ := h
  have hdebt := hstep hl
  refine ⟨?_, ?_, nofun, fun hf => ?_⟩
  · change -2 ≤ l.debt - 1
    omega
  · change l.debt - 1 ≤ 7
    omega
  · have hclear : clearLevel deferral < l.debt - 1 := of_decide_eq_true (Bool.and_eq_true_iff.mp hf).2
    rw [clearLevel_eq] at hclear
    change 1 ≤ l.debt - 1
    omega

/-- A flag re-evaluated against a limit of at least 1 stands at a debt of at least 1 (R69). -/
theorem Lane.InRange.reevaluate {l : Lane} (h : l.InRange) {deferral : Nat} (hd : 1 ≤ deferral) :
    (l.reevaluate deferral).InRange := by
  obtain ⟨hlower, hupper, hstep, hforced⟩ := h
  unfold Lane.reevaluate
  split
  · next hset => exact ⟨hlower, hupper, hstep, fun _ => (Int.ofNat_le.mpr hd).trans hset⟩
  · split
    · exact ⟨hlower, hupper, hstep, nofun⟩
    · exact ⟨hlower, hupper, hstep, hforced⟩

/-- With no debt and no flag a lane is in range (R76). -/
theorem Lane.inRange_cleared (l : Lane) : ({ l with debt := 0, forced := false, pointer := 0 } : Lane).InRange := by
  simp [Lane.InRange]

/-! ## The lanes' decisions (R48 to R57) -/

/-- A step is chosen for a forced lane or at a debt of -1 or more (R49, R55, R56). -/
theorem debt_of_restore {s : State} {a : LaneId} (hd : s.decision a = .restore) (h : (s.lane a).InRange) :
    -1 ≤ (s.lane a).debt := by
  obtain ⟨-, -, -, hforced⟩ := h
  rw [decision_of_closed (closed_of_decision (Or.inr hd))] at hd
  split at hd
  · next hf => exact (by decide : (-1 : Int) ≤ 1).trans (hforced hf)
  · unfold State.decideClosed at hd
    split at hd
    · next o _ _ => cases ht : s.targetOf o <;> simp [ht] at hd
    · split at hd
      · omega
      · split at hd
        · next hpull => exact hpull.1
        · cases hd

/-- ITG's decision at a selection takes a suspect off the list or posts a notice; it leaves every debt alone
(R91, R92). -/
theorem regular_selectWrite (k : EntryKey) (loc : Location) (s : State) : s.Regular (selectWrite k loc s) := by
  unfold selectWrite
  split
  · split
    · next f _ =>
      refine State.Regular.trans (t := s.setLane loc.lane ((s.lane loc.lane).remap loc f))
        (regular_setLane fun h => h) ?_
      exact (regular_suspects (List.length_filter_le _ _).trans).trans (regular_blocks _)
    · split
      · exact .refl s
      · refine State.Regular.trans ?_ (regular_postNotice _ _)
        exact regular_setLane fun h => h
  · exact .refl s

theorem regular_serve (a : LaneId) (p : PageName) (k : EntryKey) (passed : List EntryKey) (s : State) :
    s.Regular (serve a p k passed s) := by
  rcases serve_cases a p k passed s with h | ⟨e, loc, t, line, -, -, ht, h⟩ <;> rw [h]
  · exact .refl s
  · have hraised : s.Regular (raisePasses passed s) := regular_blocks s
    have hselected : s.Regular t := by
      rcases ht with rfl | rfl
      · exact hraised
      · exact hraised.trans (regular_selectWrite k loc _)
    have hactive : t.Regular (t.onEntry k (fun e => { e with state := .active })) := regular_blocks t
    exact (hselected.trans hactive).trans (regular_setLaneState nofun)

theorem regular_decideLane (s : State) (a : LaneId) : s.Regular (decideLane s a) := by
  unfold decideLane act
  split
  · exact regular_serve ..
  · exact regular_setLaneState nofun
  · exact regular_setLaneState nofun
  · next hd _ => exact regular_setLaneState fun _ => debt_of_restore hd
  · exact .refl s

theorem regular_tell (lanes : List LaneId) (s : State) : s.Regular (tell lanes s) :=
  keeps_tell (P := s.Regular) (fun a t h => h.trans (regular_decideLane t a)) lanes s (.refl s)

end Sys2Proof.Machine
end

section
/-!
PROOFS. Every command goes from state to state regularly, but the resets, the pins and the reading of the temperature;
these keep the debts and the queues within bounds as well (O58).
-/
namespace Sys2Proof.Machine

/-! ## Due steps (R134, R138, R159, R169) -/

/-- A profile is applied only from PRF's own records (R134, R137). -/
theorem held_of_toApply {s : State} {p : Profile} (h : s.toApply = some p) :
    s.prf.staged = some p ∨ s.prf.processing = some p := by
  unfold State.toApply at h
  split at h
  · split at h
    · exact Or.inl h
    · cases h
  · split at h
    · exact Or.inr h
    · cases h
  · cases h

theorem Profiles.Positive.deferral {r : Profiles} (h : r.Positive) {p : Profile}
    (hp : r.staged = some p ∨ r.processing = some p) : 1 ≤ p.deferral := by
  obtain ⟨-, hstaged, hprocessing⟩ := h
  rcases hp with hp | hp
  · simpa [positiveDeferral, hp] using hstaged
  · simpa [positiveDeferral, hp] using hprocessing

theorem regular_applyProfile {s : State} {p : Profile} (hp : s.prf.staged = some p ∨ s.prf.processing = some p) :
    s.Regular (applyProfile p s) := by
  have hlanes : s.Regular { s with lanes := s.lanes.map (Lane.reevaluate p.deferral) } :=
    regular_mapLanes fun hprf _ hl => hl.reevaluate (hprf.deferral hp)
  have hprf {t : State} (ht : t.prf = s.prf) :
      t.Regular { t with prf := { t.prf with active := some p, staged := none, processing := none } } :=
    regular_profiles fun h => ⟨by simpa [positiveDeferral] using (ht ▸ h).deferral hp, rfl, rfl⟩
  have hrelease {t : State} : t.Regular (releaseHeld t) := regular_blocks t
  exact ((hlanes.trans (hprf rfl)).trans hrelease).trans (regular_tell _ _)

theorem regular_application {s : State} {p : Profile} (h : s.toApply = some p) : s.Regular (application p s) := by
  have hp := held_of_toApply h
  unfold application
  split
  · refine State.Regular.trans ?_ (regular_applyProfile (s := reply (.profileApplied p.label) _) hp)
    exact regular_blocks s
  · refine State.Regular.trans ?_ (regular_applyProfile (s := produce (.profileApplied p.label) _) hp)
    exact regular_blocks s

theorem regular_drainEnds (s : State) : s.Regular (drainEnds s) := by
  refine State.Regular.trans ?_ (regular_tell allLanes _)
  split
  · exact regular_blocks s
  · exact regular_blocks s

theorem regular_freeEntry (k : EntryKey) (s : State) : s.Regular (freeEntry k s) := by
  rw [freeEntry_eq]
  exact regular_blocks s

section
variable {s : State} (hroom : s.link.outbound.length < 24)
include hroom

theorem regular_grantClass1 : s.Regular (grantClass1 s) := by
  unfold grantClass1
  split
  · exact .refl s
  · next w ws hw =>
    have hgrant : s.Regular (enqueue w.message { s with waiting := ws }) :=
      (regular_blocks s).trans (regular_enqueue (s := { s with waiting := ws }) hroom w.message)
    cases w with
    | int m => exact hgrant.trans (regular_depart _)
    | closed k n => exact hgrant.trans (regular_blocks _)
    | profileApplied label => exact hgrant
    | stc r => exact hgrant

theorem regular_grantEntry : s.Regular (grantEntry s) := by
  unfold grantEntry
  split
  · exact .refl s
  · exact (regular_enqueue hroom _).trans (regular_freeEntry _ _)

/-- NOTICES_LOST takes the place that the notice leaves (R176). -/
theorem regular_grantNotice : s.Regular (grantNotice s) := by
  unfold grantNotice
  split
  · exact .refl s
  · next n ns hq =>
    refine State.Regular.trans (regular_notices fun ⟨hqueue, hlost⟩ => ?_) (regular_enqueue (by exact hroom) _)
    rw [hq, List.length_cons] at hqueue
    dsimp only
    split
    · refine ⟨?_, Nat.zero_le _⟩
      rw [List.length_append]
      exact hqueue
    · exact ⟨(Nat.le_succ _).trans hqueue, hlost⟩

end

/-- A grant is due only while the outbound queue has a free place (R159). -/
theorem due_cases {s : State} {d : Due} (h : s.due = some d) :
    d = .application ∨ d = .drain ∨ s.link.outbound.length < 24 := by
  unfold State.due at h
  split at h
  · cases h
  · split at h
    · exact Or.inl (Option.some.inj h).symm
    · split at h
      · exact Or.inr (Or.inl (Option.some.inj h).symm)
      · split at h
        · next hroom => exact Or.inr (Or.inr hroom)
        · cases h

theorem regular_perform {s : State} {d : Due} (h : s.due = some d) : s.Regular (perform d s) := by
  have hgrant (ha : d ≠ .application) (hd : d ≠ .drain) : s.link.outbound.length < 24 := by
    rcases due_cases h with h | h | h
    · exact absurd h ha
    · exact absurd h hd
    · exact h
  unfold perform
  cases d with
  | application =>
    dsimp only
    split
    · next p hp => exact (regular_application hp).trans (regular_kick _)
    · exact .refl s
  | drain => exact (regular_drainEnds s).trans (regular_kick _)
  | intReply | closedReply | profileApplied | stcReply =>
    exact (regular_grantClass1 (hgrant nofun nofun)).trans (regular_kick _)
  | entryReply => exact (regular_grantEntry (hgrant nofun nofun)).trans (regular_kick _)
  | notice => exact (regular_grantNotice (hgrant nofun nofun)).trans (regular_kick _)

theorem regular_settleFor : ∀ (n : Nat) (s : State), s.Regular (settleFor n s)
  | 0, s => regular_kick s
  | n + 1, s => by
    unfold settleFor
    split
    · exact regular_kick s
    · next hd => exact ((regular_kick s).trans (regular_perform hd)).trans (regular_settleFor n _)

theorem regular_settle (s : State) : s.Regular (settle s) := regular_settleFor 32 s

/-! ## Requests -/

theorem regular_refuse (slot tag : Byte) (r : Reason) (s : State) : s.Regular (refuse slot tag r s) := regular_blocks s

theorem regular_unlessInitializing {answer : State → State} (h : Regularly answer) (s : State) :
    s.Regular (unlessInitializing answer s) := by
  unfold unlessInitializing
  split
  · exact regular_refuse ..
  · exact h s

theorem regular_acceptEntry (key : EntryKey) (kind : EntryKind) (s : State) : s.Regular (acceptEntry key kind s) := by
  have hentry : s.Regular { s with table := s.table ++ [acceptedEntry s key kind] } := regular_blocks s
  have hfences {t : State} : t.Regular (completeFences (fun e => e.key == key) t) := regular_blocks t
  exact ((hentry.trans (regular_depart _)).trans hfences).trans (regular_tell _ _)

theorem regular_dataRequest (slot tag : Byte) (kind : Except Reason EntryKind) (s : State) :
    s.Regular (dataRequest slot tag kind s) := by
  unfold dataRequest
  split
  · exact regular_refuse ..
  · split
    · exact regular_refuse ..
    · exact regular_acceptEntry ..

theorem regular_openSlot (k : SlotId) (asked : Nat) (order : ReplyOrder) (s : State) :
    s.Regular (openSlot k asked order s) := regular_blocks s

theorem regular_openRequest (window order : Byte) (s : State) : s.Regular (openRequest window order s) := by
  unfold openRequest
  split
  · exact regular_refuse ..
  · split
    · exact regular_refuse ..
    · split
      · exact regular_refuse ..
      · split
        · exact regular_refuse ..
        · split
          · exact regular_refuse ..
          · exact regular_openSlot ..

theorem regular_closeIfDrained (k : SlotId) (s : State) : s.Regular (closeIfDrained k s) := by
  rcases closeIfDrained_cases k s with ⟨-, -, h⟩ | ⟨-, h⟩ <;> rw [h]
  · exact regular_blocks s
  · exact .refl s

theorem regular_closeKeeping (k : SlotId) (s : State) : s.Regular (closeKeeping k s) := by
  have hslot : s.Regular (s.setSlot k { s.slot k with state := .closing, discarded := 0 }) := regular_blocks s
  exact (hslot.trans (regular_depart _)).trans (regular_closeIfDrained k _)

theorem regular_closeDiscarding (k : SlotId) (s : State) : s.Regular (closeDiscarding k s) := by
  have hslot : s.Regular { s.setSlot k { s.slot k with
      state := .closing, discarded := (s.table.filter (Entry.discardable k)).length } with
    table := s.table.filter (fun e => !e.discardable k) } := regular_blocks s
  have hfences {t : State} : t.Regular (completeFences (Entry.chargedTo k) t) := regular_blocks t
  exact (((hslot.trans (regular_depart _)).trans hfences).trans (regular_closeIfDrained k _)).trans (regular_tell _ _)

theorem regular_closeRequest (slot : Byte) {close : SlotId → State → State} (h : ∀ k, Regularly (close k))
    (s : State) : s.Regular (closeRequest slot close s) := by
  unfold closeRequest
  split
  · exact regular_refuse ..
  · exact h _ s

/-- A record with no bad field has a deferral limit of at least 1 (R131, R133). -/
theorem profileOf_deferral {record : List Byte} (h : badProfileField record = none) :
    1 ≤ (profileOf record).deferral := by
  have hne : byteAt record 6 ≠ 0#8 := fun h6 => by
    simp only [badProfileField, h6] at h
    split_ifs at h
    simp_all
  exact Nat.pos_of_ne_zero fun hz => hne (BitVec.eq_of_toNat_eq hz)

theorem regular_takeProfile {p : Profile} (hp : 1 ≤ p.deferral) (s : State) : s.Regular (takeProfile p s) := by
  have hpos : positiveDeferral (some p) := by simpa [positiveDeferral] using hp
  unfold takeProfile
  split
  · exact regular_profiles fun ⟨hactive, hstaged, _⟩ => ⟨hactive, hstaged, hpos⟩
  · have hstage : s.Regular { s with prf := { s.prf with staged := some p } } :=
      regular_profiles fun ⟨hactive, _, hprocessing⟩ => ⟨hactive, hpos, hprocessing⟩
    exact (hstage.trans (regular_depart _)).trans (regular_tell _ _)

theorem regular_setProfileRequest (record : List Byte) (s : State) : s.Regular (setProfileRequest record s) := by
  unfold setProfileRequest
  split
  · exact regular_refuse ..
  · split
    · exact regular_refuse ..
    · split
      · exact regular_blocks s
      · next hgood => exact regular_takeProfile (profileOf_deferral hgood) s

theorem regular_produceProfileState (s : State) : s.Regular (produceProfileState s) := by
  obtain ⟨before, after, draws, -, -, h⟩ := produceProfileState_eq s
  rw [h]
  exact regular_blocks s

/-- A request that moves the device to another state: the frame departs, replies are produced, the lanes are told. -/
theorem regular_device (s : State) (stc : Controller) : s.Regular (depart { s with stc := stc }) := by
  have hstc : s.Regular { s with stc := stc } := regular_blocks s
  exact hstc.trans (regular_depart _)

theorem regular_restRequest (s : State) : s.Regular (restRequest s) := by
  unfold restRequest
  split
  · exact regular_refuse ..
  · exact regular_refuse ..
  · split
    · exact regular_refuse ..
    · exact (regular_device s _).trans (regular_tell _ _)
  · exact regular_refuse ..

theorem regular_cancelRest (s : State) : s.Regular (cancelRest s) := by
  refine ((regular_device s { s.stc with device := .ready, restOwed := false }).trans ?_).trans (regular_tell _ _)
  split
  · exact regular_blocks _
  · exact regular_blocks _

theorem regular_wakeRequest (s : State) : s.Regular (wakeRequest s) := by
  unfold wakeRequest
  split
  · exact regular_refuse ..
  · exact regular_cancelRest s
  · exact (regular_device s _).trans (regular_tell _ _)
  · exact regular_refuse ..

theorem regular_clearCounters (s : State) : s.Regular (clearCounters s) := by
  have hlanes : s.Regular { s with lanes := s.lanes.map (fun l => { l with corrected := 0, lost := 0, overruns := 0 }) } :=
    regular_mapLanes fun _ _ hl => hl
  have hoverflow {t : State} : t.Regular { t with itg := { t.itg with overflow := 0 } } := regular_suspects fun h => h
  have hlink {t : State} : t.Regular { t with link := { t.link with counters := LinkCounters.zero } } :=
    regular_link fun h => h
  exact (hlanes.trans hoverflow).trans hlink

theorem regular_getTableRequest (code lane : Byte) (s : State) : s.Regular (getTableRequest code lane s) :=
  regular_unlessInitializing (fun s => by
    split
    · exact regular_blocks s
    · split
      · split
        · exact regular_refuse ..
        · exact regular_blocks s
      · exact regular_refuse ..) s

theorem regular_forgetRequest (lane : Byte) (page : Nat) (line : Byte) (s : State) :
    s.Regular (forgetRequest lane page line s) :=
  regular_unlessInitializing (fun s => by
    split
    · exact regular_refuse ..
    · split
      · exact (regular_suspects (List.length_filter_le _ _).trans).trans (regular_blocks _)
      · exact regular_refuse ..) s

theorem regular_forgetAll (s : State) :
    s.Regular (reply (.forgotten s.itg.suspects.length) { s with itg := { s.itg with suspects := [] } }) :=
  (regular_suspects fun _ => Nat.zero_le _).trans (regular_blocks _)

/-! ## Completions at the lanes, and the timers -/

theorem regular_openCompletes (a : LaneId) (s : State) : s.Regular (openCompletes a s) := by
  unfold openCompletes
  split
  · refine State.Regular.trans ?_ (regular_decideLane _ a)
    exact regular_setLaneState nofun
  · exact .refl s

theorem regular_closeCompletes (a : LaneId) (s : State) : s.Regular (closeCompletes a s) := by
  unfold closeCompletes
  split
  · refine State.Regular.trans ?_ (regular_decideLane _ a)
    exact regular_setLaneState nofun
  · exact .refl s

theorem regular_stepCompletes (a : LaneId) (s : State) : s.Regular (stepCompletes a s) := by
  by_cases hl : (s.lane a).state = .restoring
  · rw [stepCompletes_of_restoring hl]
    have harray : s.Regular { s with array := s.array.step a (s.lane a).pointer } := regular_blocks s
    exact (harray.trans (regular_setLane fun h => h.stepDone hl s.deferral)).trans (regular_decideLane _ a)
  · rw [stepCompletes_of_not_restoring hl]
    exact .refl s

theorem regular_endWork (a : LaneId) (p : PageName) (e : Entry) (s : State) : s.Regular (endWork a p e s) := by
  rw [endWork_eq]
  have hheld : s.Regular (s.setLaneState a (.held p)) := regular_setLaneState nofun
  have hfinish {t : State} : t.Regular (finishEntry e t) := by
    unfold finishEntry
    split
    · exact regular_freeEntry _ t
    · exact regular_blocks t
  have hfences {t : State} : t.Regular (completeFences (Entry.chargedTo e.key.slot) t) := regular_blocks t
  exact ((hheld.trans hfinish).trans hfences).trans (regular_tell _ _)

theorem regular_handleOutcome (loc : Location) (line : ArrayLine) (o : ReadOutcome) (s : State) :
    s.Regular (handleOutcome loc line o s) := by
  cases o with
  | clean => exact .refl s
  | corrected => exact regular_setLane fun h => h
  | lost =>
    refine State.Regular.trans ?_ (regular_offerSuspect _ _ _)
    exact regular_setLane fun h => h

theorem regular_readCompletes (a : LaneId) (p : PageName) (line : ArrayLine) (e : Entry) (loc : Location) (s : State) :
    s.Regular (readCompletes a p line e loc s) := by
  have hbuffer : s.Regular { s.onEntry e.key (fun _ => readEntry line e s) with draws := s.draws + 1 } :=
    regular_blocks s
  have hread : s.Regular (afterRead line e loc s) := hbuffer.trans (regular_handleOutcome loc line _ _)
  rw [readCompletes_eq]
  split
  · exact hread.trans (regular_setLaneState nofun)
  · exact hread.trans (regular_endWork ..)

/-- A line stored, then the end of the array work (R13, R14). -/
theorem regular_storeAndEndWork (a : LaneId) (p : PageName) (e : Entry) (m : Storage) (s : State) :
    s.Regular (endWork a p e { s with array := m }) := by
  refine State.Regular.trans ?_ (regular_endWork a p e _)
  exact regular_blocks s

theorem regular_degrade (line : ArrayLine) (level : Damage) (temperature : Int) (s : State) :
    s.Regular (degrade line level temperature s) := by
  unfold degrade
  split
  · exact regular_blocks s
  · exact .refl s

theorem regular_timerExpires (s : State) : s.Regular (timerExpires s) := by
  unfold timerExpires
  split
  · exact .refl s
  · refine State.Regular.trans ?_ (regular_tell _ _)
    refine State.Regular.trans ?_ (regular_postNotices Notice.restorationOverrun _ _)
    have hlanes : s.Regular { s with lanes := s.lanes.map (Lane.expire s.deferral) } :=
      regular_mapLanes fun hprf _ hl => hl.expire (deferral_pos hprf)
    exact hlanes.trans (regular_blocks _)

theorem regular_wakeCompletes (s : State) : s.Regular (wakeCompletes s) := by
  unfold wakeCompletes
  split
  · refine State.Regular.trans ?_ (regular_tell _ _)
    split
    · exact regular_blocks s
    · exact regular_blocks s
  · exact .refl s

/-- At the end of initialization every debt is 0 and no lane is forced (R76, R166). -/
theorem regular_initializationCompletes (s : State) : s.Regular
    (tell allLanes { s with
      array := Storage.initialized
      stc := { s.stc with device := .unconfigured, initializing := false }
      lanes := s.lanes.map (fun l => { l with debt := 0, forced := false, pointer := 0 })
      rst := { s.rst with timer := some s.nextPeriod } }) := by
  refine State.Regular.trans ?_ (regular_tell _ _)
  have hlanes : s.Regular { s with lanes := s.lanes.map (fun l => { l with debt := 0, forced := false, pointer := 0 }) } :=
    regular_mapLanes fun _ l _ => l.inRange_cleared
  exact hlanes.trans (regular_blocks _)

/-! ## Resets (R160, R164, R165) -/

theorem regular_linkResetBlocks (s : State) : s.Regular (linkResetBlocks s) where
  debts := fun ⟨hlanes, hactive, _⟩ => ⟨hlanes, hactive, rfl, rfl⟩
  link _ := Link.withinPlaces_afterReset _
  notices _ := ⟨Nat.zero_le _, Nat.zero_le _⟩
  suspects := id
  pins := rfl
  band := rfl

/-- The pins and RST can change soundly. -/
theorem sound_blocks (s : State) {pending : List Instr} {pins : Pins} {rst : Restoration} :
    s.Sound { s with pending := pending, pins := pins, rst := rst } := ⟨id, id, id, id⟩

theorem State.Sound.refl (s : State) : s.Sound s := (State.Regular.refl s).toSound

/-- A state whose lanes, queues and profiles have their reset values is sound, whatever was before. -/
theorem sound_of_reset (s : State) {pending : List Instr} {pins : Pins} {rst : Restoration} {array : Storage}
    {draws : Nat} :
    s.Sound { State.reset with pending := pending, pins := pins, rst := rst, array := array, draws := draws } where
  debts _ := debtsInRange_reset
  link _ := Link.withinPlaces_afterReset _
  notices _ := ⟨Nat.zero_le _, Nat.zero_le _⟩
  suspects _ := Nat.zero_le _

theorem sound_fullReset (s t : State) : s.Sound (fullReset t) := sound_of_reset s

theorem sound_powerLost (s t : State) : s.Sound (powerLost t) := sound_of_reset s

/-! ## Commands -/

theorem regular_whileRunning {f : State → State} (h : Regularly f) (s : State) :
    s.Regular (whileRunning f s) := by
  unfold whileRunning
  split
  · exact h s
  · exact .refl s

theorem regular_event {f : State → State} (h : Regularly f) (s : State) : Yields s.Regular (event f s) :=
  yields_next (((regular_settle s).trans (h _)).trans (regular_kick _))

/-- An event that occurs only while the part runs. -/
theorem regular_runningEvent {f : State → State} (h : Regularly f) (s : State) :
    Yields s.Regular (event (whileRunning f) s) := regular_event (regular_whileRunning h) s

/-- An event that changes the link only. -/
theorem regular_linkEvent {f : Link → Link} (h : ∀ l : Link, l.WithinPlaces → (f l).WithinPlaces) (s : State) :
    Yields s.Regular (event (whileRunning fun s => s.onLink f) s) :=
  regular_runningEvent (fun _ => regular_onLink (h _)) s

/-- A request whose owner answers regularly. -/
theorem regular_request (row : RequestRow) {owner : Request → State → State} (h : ∀ r, Regularly (owner r))
    (s : State) : Yields s.Regular (event (intTakes row owner) s) :=
  regular_event (fun s => keeps_intTakes (P := s.Regular) (fun _ _ _ t ht => ht.trans (regular_refuse _ _ _ t)) row
    (fun r t ht => ht.trans (h r t)) s (.refl s)) s

theorem regular_internal (d : Due) (s : State) : Yields s.Regular (internal d s) := by
  unfold internal
  split
  · next hd => exact yields_next (regular_perform hd)
  · exact yields_next (.refl s)

theorem regular_phaseCompletion {a : LaneId} {ph : Phase} {f : PageName → ArrayLine → Entry → Location → State → State}
    (h : ∀ p line e loc, Regularly (f p line e loc)) (s : State) : Yields s.Regular (phaseCompletion a ph f s) := by
  have hsettled := regular_settle s
  rcases phaseCompletion_cases a ph f s with hc | ⟨p, line, e, loc, -, hc⟩ | ⟨_, _, _, _, _, hc⟩ <;> rw [hc]
  · exact yields_next (hsettled.trans (regular_kick _))
  · exact yields_next ((hsettled.trans (h p line e loc _)).trans (regular_kick _))
  · exact fun _ ht => nomatch ht

theorem regular_downSequencedFrame (k n : Byte) (m : List Byte) (s : State) :
    Yields s.Regular (execDownSequencedFrame k n m s) :=
  regular_runningEvent (fun s => by
    split
    · exact regular_onLink fun h => (h.acknowledge k).judge n m
    · exact .refl s) s

theorem regular_downFrameCheckFailed (frame : List Byte) (s : State) :
    Yields s.Regular (execDownFrameCheckFailed frame s) :=
  regular_runningEvent (fun s => by
    split
    · next named _ => exact regular_onLink fun h => h.checkFailed named
    · exact .refl s) s

theorem regular_replayTimerExpiry (s : State) : Yields s.Regular (execReplayTimerExpiry s) :=
  regular_runningEvent (fun s => by
    split
    · next ht => exact regular_onLink fun h => h.expire ht
    · exact .refl s) s

theorem regular_linkReset (k : Byte) (s : State) : Yields s.Regular (execLinkReset k s) :=
  regular_runningEvent (fun s => by
    have hreset : s.Regular (linkResetBlocks (s.onLink fun l => l.acknowledge k)) :=
      (regular_onLink fun h => h.acknowledge k).trans (regular_linkResetBlocks _)
    dsimp only
    split
    · exact hreset.trans (regular_tell _ _)
    · exact hreset.trans (regular_tell _ _)) s

theorem regular_arrayInitializationCompletion (s : State) : Yields s.Regular (execArrayInitializationCompletion s) :=
  regular_runningEvent (fun s => by
    split
    · exact regular_initializationCompletes s
    · exact .refl s) s

/-- The commands that reset the part, move its pins or supplies, or read its temperature. -/
def resetsOrReads : Instr → Bool
  | .fullReset _ => true
  | .resetNFall => true
  | .resetNRise => true
  | .powerUp => true
  | .supplyOutOfRange => true
  | .temperatureReadingCompletion _ => true
  | _ => false

/-- Every other command goes from state to state regularly. -/
theorem regular_exec {c : Instr} (hc : resetsOrReads c = false) (s : State) : Yields s.Regular (exec c s) := by
  cases c with
  | fullReset | resetNFall | resetNRise | powerUp | supplyOutOfRange | temperatureReadingCompletion => cases hc
  | downSequencedFrame => exact regular_downSequencedFrame _ _ _ s
  | downFrameCheckFailed => exact regular_downFrameCheckFailed _ s
  | ack k =>
    exact regular_linkEvent (f := fun l => { l.acknowledge k with pendingCredit := true }) (fun _ h => h.acknowledge k) s
  | resend k n => exact regular_linkEvent (fun _ h => (h.acknowledge k).resendFrom n) s
  | linkReset => exact regular_linkReset _ s
  | read => exact regular_request .read (fun r s => by
      cases r with
      | read => exact regular_dataRequest ..
      | _ => exact .refl s) s
  | write => exact regular_request .write (fun r s => by
      cases r with
      | write => exact regular_dataRequest ..
      | _ => exact .refl s) s
  | merge => exact regular_request .merge (fun r s => by
      cases r with
      | merge => exact regular_dataRequest ..
      | _ => exact .refl s) s
  | fence => exact regular_request .fence (fun r s => by
      cases r with
      | fence => exact regular_dataRequest ..
      | _ => exact .refl s) s
  | openSession => exact regular_request .openSession (fun r s => by
      cases r with
      | openSession => exact regular_openRequest ..
      | _ => exact .refl s) s
  | closeSession => exact regular_request .close (fun r s => by
      cases r with
      | close => exact regular_closeRequest _ regular_closeKeeping s
      | _ => exact .refl s) s
  | closeWithDiscard => exact regular_request .closeWithDiscard (fun r s => by
      cases r with
      | close => exact regular_closeRequest _ regular_closeDiscarding s
      | _ => exact .refl s) s
  | setProfile => exact regular_request .setProfile (fun r s => by
      cases r with
      | setProfile => exact regular_setProfileRequest ..
      | _ => exact .refl s) s
  | getProfile => exact regular_request .getProfile (fun _ => regular_unlessInitializing regular_produceProfileState) s
  | rest => exact regular_request .rest (fun _ => regular_restRequest) s
  | wake => exact regular_request .wake (fun _ => regular_wakeRequest) s
  | getStatus => exact regular_request .getStatus (fun _ => fun s => regular_blocks s) s
  | getStatusClearCounters =>
    exact regular_request .getStatusClearCounters
      (fun _ => fun s => (regular_clearCounters s).trans (regular_blocks _)) s
  | getTableSuspect => exact regular_request .getTableSuspect (fun r s => by
      cases r with
      | getTable => exact regular_getTableRequest ..
      | _ => exact .refl s) s
  | getTableRemap => exact regular_request .getTableRemap (fun r s => by
      cases r with
      | getTable => exact regular_getTableRequest ..
      | _ => exact .refl s) s
  | forget => exact regular_request .forget (fun r s => by
      cases r with
      | forget => exact regular_forgetRequest ..
      | _ => exact .refl s) s
  | forgetAll => exact regular_request .forgetAll (fun _ => regular_unlessInitializing regular_forgetAll) s
  | unknownKindMessage => exact regular_request .unknownKind (fun _ => .refl) s
  | pageOpenCompletion a => exact regular_runningEvent (regular_openCompletes a) s
  | readPhaseCompletion a => exact regular_phaseCompletion (regular_readCompletes a) s
  | writePhaseCompletion a =>
    exact regular_phaseCompletion (fun p _ e _ s => regular_storeAndEndWork a p e _ s) s
  | writeBackPhaseCompletion a =>
    exact regular_phaseCompletion (fun p _ e _ s => regular_storeAndEndWork a p e _ s) s
  | pageCloseCompletion a => exact regular_runningEvent (regular_closeCompletes a) s
  | restorationStepCompletion a => exact regular_runningEvent (regular_stepCompletes a) s
  | restorationTimerExpiry => exact regular_runningEvent regular_timerExpires s
  | arrayInitializationCompletion => exact regular_arrayInitializationCompletion s
  | wakeCompletion => exact regular_runningEvent regular_wakeCompletes s
  | replayTimerExpiry => exact regular_replayTimerExpiry s
  | transmissionEnd => exact regular_linkEvent (f := fun l => { l with transmission := none }) (fun _ h => h) s
  | lineDegradation => exact regular_runningEvent (regular_degrade _ _ _) s
  | profileApplication | drainComplete | intReplyGrant | entryReplyGrant | closedReplyGrant | profileAppliedGrant
  | stcReplyGrant | noticeGrant => exact regular_internal _ s

/-! ## Resets, pins and readings -/

theorem sound_event {f : State → State} (h : ∀ s : State, s.Sound (f s)) (s : State) : Yields s.Sound (event f s) :=
  yields_next (((regular_settle s).toSound.trans (h _)).trans (regular_kick _).toSound)

theorem sound_execFullReset (k : Byte) (s : State) : Yields s.Sound (execFullReset k s) :=
  sound_event (fun s => by
    unfold whileRunning
    split
    · exact sound_fullReset ..
    · exact .refl s) s

theorem sound_resetNFall (s : State) : Yields s.Sound (execResetNFall s) :=
  sound_event (fun s => by
    dsimp only
    split
    · split
      · exact sound_fullReset ..
      · exact sound_blocks s
    · exact .refl s) s

theorem sound_resetNRise (s : State) : Yields s.Sound (execResetNRise s) :=
  sound_event (fun s => by
    dsimp only
    split
    · exact .refl s
    · split
      · exact sound_blocks s
      · exact sound_blocks s) s

theorem sound_powerUp (s : State) : Yields s.Sound (execPowerUp s) :=
  sound_event (fun s => by
    split
    · exact .refl s
    · exact sound_fullReset ..) s

theorem sound_supplyOutOfRange (s : State) : Yields s.Sound (execSupplyOutOfRange s) :=
  sound_event (fun s => by
    split
    · exact sound_powerLost ..
    · exact .refl s) s

theorem sound_readingCompletes (temperature : Int) (s : State) : s.Sound (readingCompletes temperature s) := by
  unfold readingCompletes
  split
  · exact .refl s
  · dsimp only
    split
    · exact sound_blocks s
    · exact State.Sound.trans (sound_blocks s) (regular_postNotice _ _).toSound

theorem sound_temperatureReadingCompletion (temperature : Int) (s : State) :
    Yields s.Sound (execTemperatureReadingCompletion temperature s) :=
  sound_event (fun s => by
    unfold whileRunning
    split
    · exact sound_readingCompletes temperature s
    · exact .refl s) s

/-- Every command keeps the debts in range and the queues within their places. -/
theorem sound_exec (c : Instr) (s : State) : Yields s.Sound (exec c s) := by
  cases c with
  | fullReset => exact sound_execFullReset _ s
  | resetNFall => exact sound_resetNFall s
  | resetNRise => exact sound_resetNRise s
  | powerUp => exact sound_powerUp s
  | supplyOutOfRange => exact sound_supplyOutOfRange s
  | temperatureReadingCompletion => exact sound_temperatureReadingCompletion _ s
  | _ => exact fun t ht => (regular_exec rfl s t ht).toSound

theorem sound_step (s : State) : Yields s.Sound (step s) := by
  unfold step
  split
  · exact yields_next (regular_settle s).toSound
  · exact fun t ht => State.Sound.trans (sound_blocks s) (sound_exec _ _ t ht)

/-- Settles O58: each command changes debts and queues only by operations that stay within their bounds. -/
theorem everyStepKeepsDebtsAndCapacities : Obligations.EveryStepKeepsDebtsAndCapacities :=
  ⟨fun s t hs ht => (sound_step s t ht).debts hs, fun s t hs ht => (sound_step s t ht).capacity hs⟩

end Sys2Proof.Machine
end

section
/-!
PROOFS. The expiry of the restoration timer (O50).
-/
namespace Sys2Proof.Machine

/-- A posting changes SNU only, and depends on SNU and PRF only (R175). -/
theorem postNotice_of_same {s t : State} (hprf : t.prf = s.prf) (hsnu : t.snu = s.snu) (n : Notice) :
    postNotice n t = { t with snu := (postNotice n s).snu } := by
  rw [← postNotice_snu_congr hprf hsnu]
  exact postNotice_eq n t

/-- The same for notices posted one after another. -/
theorem postNotices_of_same (n : LaneId → Notice) : ∀ (lanes : List LaneId) {s t : State},
    t.prf = s.prf → t.snu = s.snu →
    lanes.foldl (fun u a => postNotice (n a) u) t =
      { t with snu := (lanes.foldl (fun u a => postNotice (n a) u) s).snu }
  | [], _, t, _, hsnu => by
    rw [List.foldl_nil, List.foldl_nil, ← hsnu]
  | a :: lanes, s, t, hprf, hsnu => by
    have hposted : (postNotice (n a) s).prf = s.prf := by rw [postNotice_eq]
    rw [List.foldl_cons, List.foldl_cons, postNotice_of_same hprf hsnu]
    exact postNotices_of_same n lanes (hprf.trans hposted.symm) rfl

theorem timerExpires_of_stopped {s : State} (h : s.rst.timer = none) : timerExpires s = s := by
  simp only [timerExpires, h]

/-- All that an expiry does, field by field (R62 to R65). -/
theorem timerExpires_of_running {s : State} {period : Period} (h : s.rst.timer = some period) :
    timerExpires s = tell (allLanes.filter (fun a => decide ((s.lane a).debt < 7))) { s with
      lanes := s.lanes.map (Lane.expire s.deferral)
      rst := { s.rst with timer := some s.nextPeriod }
      array := { s.array with elapsed := s.array.elapsed + period.tenths }
      snu := (s.atCap.foldl (fun t a => postNotice (.restorationOverrun a) t) s).snu } := by
  simp only [timerExpires, h]
  exact congrArg (tell _) (postNotices_of_same Notice.restorationOverrun s.atCap rfl rfl)

theorem Lane.expire_of_lt {l : Lane} (h : l.debt < 7) (deferral : Nat) : l.expire deferral =
    { l with debt := l.debt + 1, forced := l.forced || decide ((deferral : Int) ≤ l.debt + 1) } := if_pos h

theorem Lane.expire_of_le {l : Lane} (h : 7 ≤ l.debt) (deferral : Nat) :
    l.expire deferral = { l with overruns := bump l.overruns } := if_neg (by omega)

/-- The timer runs at the double rate in band HOT and under ALWAYS_DOUBLE (R62). -/
theorem State.nextPeriod_eq_double_iff (s : State) :
    s.nextPeriod = .double ↔ s.rst.band = .hot ∨ ∃ p : Profile, s.prf.active = some p ∧ p.hot = .alwaysDouble := by
  have hhot : s.hot = .alwaysDouble ↔ ∃ p : Profile, s.prf.active = some p ∧ p.hot = .alwaysDouble := by
    cases hp : s.prf.active <;> simp [State.hot, hp]
  rw [← hhot, State.nextPeriod]
  cases s.hot <;> cases s.rst.band <;> decide

theorem Period.eq_single_of_ne : ∀ {p : Period}, p ≠ .double → p = .single
  | .single, _ => rfl
  | .double, h => absurd rfl h

/-- Settles O50: the expiry of a running timer is `timerExpires_of_running`, and each lane's part in it
`Lane.expire`. -/
theorem timerExpiryRaisesTheDebts : Obligations.TimerExpiryRaisesTheDebts := by
  refine fun s hs hr => ⟨fun h => event_whileRunning_of_eq hs (timerExpires_of_stopped h), fun period h => ?_⟩
  intro limit double
  have hlimit : (s.deferral : Int) = limit := deferral_eq s
  have hdouble : s.nextPeriod = .double ↔ double := s.nextPeriod_eq_double_iff
  refine ⟨s.lanes.map (Lane.expire s.deferral), s.nextPeriod, ?_, hdouble.mpr,
    fun hnot => Period.eq_single_of_ne (mt hdouble.mp hnot), fun a => ?_⟩
  · change event (whileRunning timerExpires) s = _
    rw [event_whileRunning hs hr, timerExpires_of_running h]
    cases period <;> rfl
  · intro l
    rw [Eight.get_map, ← hlimit]
    exact ⟨fun hlt => Lane.expire_of_lt hlt s.deferral, fun hle => Lane.expire_of_le hle s.deferral⟩

end Sys2Proof.Machine
end

section
/-!
PROOFS. The reading of the die temperature, and the band through every command (O51).
-/
namespace Sys2Proof.Machine

/-! ## A reading (R72, R73) -/

theorem readingOf_eq (temperature : Int) :
    readingOf temperature = if temperature < -40 then -40 else if 125 < temperature then 125 else temperature := by
  unfold readingOf
  split
  · omega
  · split
    · omega
    · omega

/-- The band changes at 88 upward and at 82 downward (R73). -/
theorem bandAfter_cool (reading : Int) :
    (88 ≤ reading → bandAfter .cool reading = .hot) ∧ (reading ≤ 87 → bandAfter .cool reading = .cool) :=
  ⟨fun h => if_pos h, fun h => if_neg (by omega)⟩

theorem bandAfter_hot (reading : Int) :
    (reading ≤ 82 → bandAfter .hot reading = .cool) ∧ (83 ≤ reading → bandAfter .hot reading = .hot) :=
  ⟨fun h => if_pos h, fun h => if_neg (by omega)⟩

/-- All that a completed reading does: it touches RST, and SNU where the band changes (R72 to R74). -/
theorem readingCompletes_eq {s : State} (h : s.rst.interval.isSome = true) (temperature : Int) :
    readingCompletes temperature s = { s with
      rst := { s.rst with
        lastReading := some (readingOf temperature)
        band := bandAfter s.rst.band (readingOf temperature)
        interval := some s.nextInterval }
      snu := if bandAfter s.rst.band (readingOf temperature) = s.rst.band then s.snu
        else (postNotice (.tempBand (bandAfter s.rst.band (readingOf temperature))) s).snu } := by
  obtain ⟨interval, hi⟩ := Option.isSome_iff_exists.mp h
  simp only [readingCompletes, hi]
  split
  · rfl
  · exact postNotice_of_same (s := s) (by rfl) (by rfl) _

/-- A reading is none of the sender's business. -/
theorem exec_temperatureReadingCompletion {s : State} (hs : s.settled) (hr : s.running = true)
    (h : s.rst.interval.isSome = true) (temperature : Int) :
    exec (.temperatureReadingCompletion temperature) s = .next (readingCompletes temperature s) := by
  change event (whileRunning (readingCompletes temperature)) s = _
  rw [event_whileRunning hs hr, kick_of_kick hs.1] <;> rw [readingCompletes_eq h]

/-! ## The band through the other commands (R76, R164, R165) -/

theorem settle_pins (s : State) : (settle s).pins = s.pins := (regular_settle s).pins

theorem settle_running (s : State) : (settle s).running = s.running := by
  rw [State.running, State.running, settle_pins]

/-- The band after an event is the band after the event's own change. -/
theorem band_of_event {f : State → State} {s t : State} (h : event f s = .next t) :
    t.rst.band = (f (settle s)).rst.band := by
  rw [← Host.Outcome.next.inj h, kick_rst]

/-- RESET_N's rise leaves the band alone (R164). -/
theorem band_resetNRise {s t : State} (h : execResetNRise s = .next t) : t.rst.band = s.rst.band := by
  rw [band_of_event h, ← (regular_settle s).band]
  split
  · rfl
  · dsimp only
    split
    · rfl
    · rfl

theorem band_fullReset_of_running {k : Byte} {s t : State} (hr : s.running = true)
    (h : execFullReset k s = .next t) : t.rst.band = .cool := by
  rw [band_of_event h, whileRunning, if_pos ((settle_running s).trans hr)]
  rfl

/-- While the part runs its RESET_N is high, so a fall resets it (R164). -/
theorem band_resetNFall_of_running {s t : State} (hr : s.running = true) (h : execResetNFall s = .next t) :
    t.rst.band = .cool := by
  obtain ⟨hsupplied, hhigh⟩ := Bool.and_eq_true_iff.mp hr
  rw [← settle_pins s] at hsupplied hhigh
  rw [band_of_event h, if_pos hhigh]
  dsimp only
  rw [if_pos hsupplied]
  rfl

theorem band_supplyOutOfRange {s t : State} (hp : s.pins.supplied = true) (h : execSupplyOutOfRange s = .next t) :
    t.rst.band = .cool := by
  rw [← settle_pins s] at hp
  rw [band_of_event h, if_pos hp]
  rfl

theorem band_powerUp {s t : State} (hp : s.pins.supplied = false) (h : execPowerUp s = .next t) :
    t.rst.band = .cool := by
  rw [← settle_pins s] at hp
  rw [band_of_event h, hp]
  rfl

/-- No command changes the band but a reading, a full reset and a change of the supplies. -/
theorem band_exec {c : Instr} (hread : ∀ temperature, c ≠ .temperatureReadingCompletion temperature)
    (hreset : ∀ k, c ≠ .fullReset k) (hpins : c ∉ [.resetNFall, .powerUp, .supplyOutOfRange]) {s t : State}
    (h : exec c s = .next t) : t.rst.band = s.rst.band := by
  cases c with
  | temperatureReadingCompletion temperature => exact absurd rfl (hread temperature)
  | fullReset k => exact absurd rfl (hreset k)
  | resetNFall | powerUp | supplyOutOfRange => simp at hpins
  | resetNRise => exact band_resetNRise h
  | _ => exact (regular_exec rfl s t h).band

/-- Settles O51: a reading by `readingCompletes_eq`, every other command by what it does to the band. -/
theorem temperatureBandFollowsTheReading : Obligations.TemperatureBandFollowsTheReading := by
  refine ⟨fun temperature s hs hr h => ?_, rfl, fun _ => rfl, fun c s t hread ht =>
    ⟨fun hreset hpins => band_exec hread hreset hpins ht, fun hr hc => ?_, fun hp hc => ?_, fun hp hc => ?_⟩⟩
  · intro reading
    have hreading : readingOf temperature = reading := readingOf_eq temperature
    refine ⟨bandAfter s.rst.band reading, ?_, fun hb => ?_, fun hb => ?_, fun hb => ?_, fun hb => ?_⟩
    · rw [exec_temperatureReadingCompletion hs hr h, readingCompletes_eq h, hreading]
      rfl
    · exact hb ▸ (bandAfter_cool reading).1
    · exact hb ▸ (bandAfter_cool reading).2
    · exact hb ▸ (bandAfter_hot reading).1
    · exact hb ▸ (bandAfter_hot reading).2
  · rcases hc with ⟨k, rfl⟩ | rfl
    · exact band_fullReset_of_running hr ht
    · exact band_resetNFall_of_running hr ht
  · subst hc
    exact band_supplyOutOfRange hp ht
  · subst hc
    exact band_powerUp hp ht

end Sys2Proof.Machine
end

section
/-!
PROOFS. The suspect list: FORGET of one location and of all (O38, O39), and the offer of a LOST location (O48).
-/
namespace Sys2Proof.Machine

/-! ## The layout of FORGET (R183, R184) -/

/-- Two bytes, least significant first, hold every number below 65,536 (R183). -/
theorem oneByte_add_256_mul_oneByte {n : Nat} (h : n < 65536) :
    (oneByte n).toNat + 256 * (oneByte (n / 256)).toNat = n := by
  simp only [oneByte, BitVec.toNat_ofNat]
  omega

theorem rowOf_forget (lane : Byte) (page : Nat) (line : Byte) :
    rowOf (Request.forget lane page line).bytes = .forget := rfl

theorem rowOf_forgetAll : rowOf Request.forgetAll.bytes = .forgetAll := rfl

/-- A FORGET of one location has the scope 0, so its reserved bytes are clear whatever location it names. -/
theorem decodeMessage_forget {page : Nat} (h : page < 65536) (lane line : Byte) :
    decodeMessage (Request.forget lane page line).bytes = .ok (.forget lane page line) := by
  have hread : decodeMessage (Request.forget lane page line).bytes =
      .ok (.forget lane ((oneByte page).toNat + 256 * (oneByte (page / 256)).toNat) line) := rfl
  rw [hread, oneByte_add_256_mul_oneByte h]

theorem decodeMessage_forgetAll : decodeMessage Request.forgetAll.bytes = .ok .forgetAll := rfl

/-- The three fields name a location exactly when each of them is its coordinate (R85). -/
theorem locationOf_eq_some_iff {lane line : Byte} {page : Nat} {l : Location} :
    locationOf lane page line = some l ↔ lane.toNat = l.lane.val ∧ page = l.page.val ∧ line.toNat = l.line.val := by
  obtain ⟨⟨a, ha⟩, ⟨p, hp⟩, ⟨i, hi⟩⟩ := l
  unfold locationOf laneOf
  by_cases hlane : lane.toNat < 8
  · by_cases hpage : page < 16384
    · by_cases hline : line.toNat < 32
      · simp [hlane, hpage, hline]
      · simpa [hlane, hpage, hline] using fun _ _ => by omega
    · simpa [hlane, hpage] using fun _ _ => by omega
  · simpa [hlane] using fun _ => by omega

/-- A field out of its range names no location (R85). -/
theorem locationOf_eq_none {lane line : Byte} {page : Nat} (h : 7 < lane.toNat ∨ 16383 < page ∨ 31 < line.toNat) :
    locationOf lane page line = none := by
  refine Option.eq_none_iff_forall_ne_some.mpr fun l hl => ?_
  obtain ⟨hlane, hpage, hline⟩ := locationOf_eq_some_iff.mp hl
  omega

/-! ## What a FORGET can change (R85, R86) -/

theorem unlessInitializing_of_initializing {s : State} (h : s.stc.device = .initializing) (answer : State → State) :
    unlessInitializing answer s = refuse 0#8 0#8 .notReady s := if_pos h

theorem unlessInitializing_of_ne {s : State} (h : s.stc.device ≠ .initializing) (answer : State → State) :
    unlessInitializing answer s = answer s := if_neg h

/-- State `t` differs from `s` at most in the suspect list and in a reply of INT's. -/
def State.Forgets (s t : State) : Prop :=
  ∃ (suspects : List Suspect) (m : Message), t = reply m { s with itg := { s.itg with suspects := suspects } }

theorem forgets_refuse (slot tag : Byte) (r : Reason) (s : State) : s.Forgets (refuse slot tag r s) :=
  ⟨s.itg.suspects, .refused slot tag r 0, rfl⟩

theorem State.Forgets.overflow {s t : State} (h : s.Forgets t) : t.itg.overflow = s.itg.overflow := by
  obtain ⟨suspects, m, rfl⟩ := h
  rfl

/-- A FORGET leaves the sender with nothing new to choose. -/
theorem State.Forgets.kick {s t : State} (h : s.Forgets t) (hs : s.settled) : Machine.kick t = t := by
  obtain ⟨suspects, m, rfl⟩ := h
  exact kick_of_kick hs.1 rfl rfl

theorem forgets_unlessInitializing {answer : State → State} {s : State} (h : s.Forgets (answer s)) :
    s.Forgets (unlessInitializing answer s) := by
  unfold unlessInitializing
  split
  · exact forgets_refuse _ _ _ s
  · exact h

theorem forgets_forgetRequest (lane : Byte) (page : Nat) (line : Byte) (s : State) :
    s.Forgets (forgetRequest lane page line s) :=
  forgets_unlessInitializing (by
    split
    · exact forgets_refuse _ _ _ s
    · split
      · exact ⟨_, _, rfl⟩
      · exact forgets_refuse _ _ _ s)

/-- FORGET(ALL) at its owner (R86). -/
def forgetAllRequest (s : State) : State :=
  unlessInitializing (fun s =>
    reply (.forgotten s.itg.suspects.length) { s with itg := { s.itg with suspects := [] } }) s

theorem execForgetAll_eq (s : State) : execForgetAll s = event (intTakes .forgetAll fun _ s => forgetAllRequest s) s :=
  rfl

theorem forgets_forgetAllRequest (s : State) : s.Forgets (forgetAllRequest s) :=
  forgets_unlessInitializing ⟨_, _, rfl⟩

/-! ## FORGET of one location (R85) -/

theorem exec_forget {s : State} (hs : s.settled) {lane line : Byte} {page : Nat} (hpage : page < 65536)
    (hhead : s.intHead = some (Request.forget lane page line).bytes) :
    exec .forget s = .next (forgetRequest lane page line s) := by
  change execForget s = _
  rw [execForget, event_intTakes hs hhead (rowOf_forget lane page line), decodeMessage_forget hpage]
  dsimp only
  rw [(forgets_forgetRequest lane page line s).kick hs]

section
variable {s : State} {lane line : Byte} {page : Nat}

theorem forgetRequest_of_no_location (hd : s.stc.device ≠ .initializing) (h : locationOf lane page line = none) :
    forgetRequest lane page line s = refuse 0#8 0#8 .badField s := by
  rw [forgetRequest, unlessInitializing_of_ne hd, h]

theorem forgetRequest_of_not_suspect {l : Location} (hd : s.stc.device ≠ .initializing)
    (h : locationOf lane page line = some l) (hl : ¬ s.suspect l = true) :
    forgetRequest lane page line s = refuse 0#8 0#8 .notSuspect s := by
  rw [forgetRequest, unlessInitializing_of_ne hd, h]
  exact if_neg hl

theorem forgetRequest_of_suspect {l : Location} (hd : s.stc.device ≠ .initializing)
    (h : locationOf lane page line = some l) (hl : s.suspect l = true) :
    forgetRequest lane page line s = reply (.forgotten 1)
      { s with itg := { s.itg with suspects := s.itg.suspects.filter (fun r => r.location ≠ l) } } := by
  rw [forgetRequest, unlessInitializing_of_ne hd, h]
  have hkept : (fun r : Suspect => r.location != l) = fun r => decide (r.location ≠ l) :=
    funext fun r => Bool.eq_iff_iff.mpr (by simp)
  rw [← hkept]
  exact if_pos hl

end

/-- Settles O38: the checks of R85 in their order, each by its equation of `forgetRequest`. -/
theorem forgetRemovesOneSuspect : Obligations.ForgetRemovesOneSuspect := by
  intro lane page line s hs hpage hhead refused
  have hexec := exec_forget hs hpage hhead
  refine ⟨fun hinit => ?_, fun hd => ⟨fun hbad => ?_, fun l hlane hpl hline => ?_⟩⟩
  · exact hexec.trans (congrArg _ (unlessInitializing_of_initializing hinit _))
  · exact hexec.trans (congrArg _ (forgetRequest_of_no_location hd (locationOf_eq_none hbad)))
  · have hloc : locationOf lane page line = some l := locationOf_eq_some_iff.mpr ⟨hlane, hpl, hline⟩
    refine ⟨fun hnone => ?_, fun hlisted => ?_⟩
    · have hnot : ¬ s.suspect l = true := fun h =>
        let ⟨r, hr, hrl⟩ := (s.suspect_iff l).mp h
        hnone r hr hrl
      exact hexec.trans (congrArg _ (forgetRequest_of_not_suspect hd hloc hnot))
    · exact hexec.trans (congrArg _ (forgetRequest_of_suspect hd hloc ((s.suspect_iff l).mpr hlisted)))

/-! ## FORGET(ALL), and the overflow count (R86) -/

theorem exec_forgetAll {s : State} (hs : s.settled) (hhead : s.intHead = some Request.forgetAll.bytes) :
    exec .forgetAll s = .next (forgetAllRequest s) := by
  change execForgetAll s = _
  rw [execForgetAll_eq, event_intTakes hs hhead rowOf_forgetAll, decodeMessage_forgetAll]
  dsimp only
  rw [(forgets_forgetAllRequest s).kick hs]

/-- What INT takes leaves the overflow count alone when its owner does: a malformed message is only refused (R184). -/
theorem overflow_of_intTakes {row : RequestRow} {owner : Request → State → State}
    (h : ∀ r s, (owner r s).itg.overflow = s.itg.overflow) {s t : State} (hs : s.settled)
    (ht : event (intTakes row owner) s = .next t) : t.itg.overflow = s.itg.overflow := by
  rw [event_of_settled hs] at ht
  rw [← Host.Outcome.next.inj ht, kick_itg]
  exact keeps_intTakes (P := fun u => u.itg.overflow = s.itg.overflow) (fun _ _ _ _ hu => hu) row
    (fun r u hu => (h r u).trans hu) s rfl

theorem overflow_execForget {s t : State} (hs : s.settled) (ht : exec .forget s = .next t) :
    t.itg.overflow = s.itg.overflow := by
  refine overflow_of_intTakes (fun r u => ?_) hs ht
  split
  · exact (forgets_forgetRequest _ _ _ u).overflow
  · rfl

theorem overflow_execForgetAll {s t : State} (hs : s.settled) (ht : exec .forgetAll s = .next t) :
    t.itg.overflow = s.itg.overflow :=
  overflow_of_intTakes (fun _ u => (forgets_forgetAllRequest u).overflow) hs ht

/-- Settles O39: FORGET(ALL) at its owner, the 16 places of the list, and the overflow count through either form. -/
theorem forgetAllEmptiesTheSuspectList : Obligations.ForgetAllEmptiesTheSuspectList := by
  refine ⟨fun s hs hhead => ⟨fun hinit => ?_, fun hd => ?_⟩, fun s hcap => ?_, fun s t hs ht => ?_⟩
  · exact (exec_forgetAll hs hhead).trans (congrArg _ (unlessInitializing_of_initializing hinit _))
  · exact (exec_forgetAll hs hhead).trans (congrArg _ (unlessInitializing_of_ne hd _))
  · obtain ⟨-, -, -, -, -, hsuspects, -⟩ := hcap
    exact hsuspects
  · rcases ht with ht | ht
    · exact overflow_execForget hs ht
    · exact overflow_execForgetAll hs ht

/-! ## The offer of a LOST location, and a posting (R83, R175) -/

/-- Every kind of notice is enabled before the first profile; after it the mask's bit of the kind says (R175). -/
theorem State.noticeEnabled_eq (s : State) (n : Notice) :
    s.noticeEnabled n = (match s.prf.active with | none => true | some p => p.mask.enables n) := by
  cases h : s.prf.active <;> simp [State.noticeEnabled, h]

theorem postNotice_of_masked {n : Notice} {s : State} (h : s.noticeEnabled n = false) : postNotice n s = s :=
  if_neg (Bool.eq_false_iff.mp h)

theorem postNotice_of_room {n : Notice} {s : State} (h : s.noticeEnabled n = true) (hroom : s.snu.queue.length < 8) :
    postNotice n s = { s with snu := { s.snu with queue := s.snu.queue ++ [n] } } :=
  (if_pos h).trans (if_pos hroom)

theorem postNotice_of_full {n : Notice} {s : State} (h : s.noticeEnabled n = true) (hfull : 8 ≤ s.snu.queue.length)
    (hlost : s.snu.lost ≤ 255) :
    postNotice n s = { s with snu := { s.snu with lost := min (s.snu.lost + 1) 255 } } := by
  have hsat : (if s.snu.lost < 255 then s.snu.lost + 1 else s.snu.lost) = min (s.snu.lost + 1) 255 := by
    split <;> omega
  rw [← hsat]
  exact (if_pos h).trans (if_neg (by omega))

/-- Settles O48: the three cases of an offer, and the three of a posting. -/
theorem suspectListTakesALostLocation : Obligations.SuspectListTakesALostLocation := by
  refine ⟨fun loc spare s => ?_, fun n s => ?_⟩
  · have hlisted : s.suspect loc = true ↔ ∃ r ∈ s.itg.suspects, r.location = loc := s.suspect_iff loc
    rcases offerSuspect_cases loc spare s with ⟨hin, heq⟩ | ⟨hout, hroom, heq⟩ | ⟨hout, hfull, heq⟩
    · obtain ⟨r, hr, hloc⟩ := hlisted.mp hin
      exact ⟨fun _ => heq, fun hnone => absurd hloc (hnone r hr)⟩
    · exact ⟨fun hin => absurd (hlisted.mpr hin) (Bool.eq_false_iff.mp hout),
        fun _ => ⟨fun hfull => absurd hroom (by omega), fun _ => heq⟩⟩
    · exact ⟨fun hin => absurd (hlisted.mpr hin) (Bool.eq_false_iff.mp hout),
        fun _ => ⟨fun _ => heq, fun hroom => absurd hroom (by omega)⟩⟩
  · intro enabled
    have henabled : s.noticeEnabled n = enabled := by
      rw [s.noticeEnabled_eq n]
      cases n <;> rfl
    rw [← henabled]
    exact ⟨postNotice_of_masked, postNotice_of_room, postNotice_of_full⟩

end Sys2Proof.Machine
end

section
/-!
PROOFS. OPEN: the grant of the lowest-numbered FREE slot, and the refusals in order (O31).
-/
namespace Sys2Proof.Machine

/-! ## OPEN is taken (R99, R184) -/

theorem rowOf_openSession (window order : Byte) : rowOf (Request.openSession window order).bytes = .openSession := rfl

theorem decodeMessage_openSession (window order : Byte) :
    decodeMessage (Request.openSession window order).bytes = .ok (.openSession window order) := rfl

/-- An OPEN, granted or refused, leaves the sender with nothing new to choose: its frame waits for the reply (R100). -/
theorem kick_openRequest {s : State} (hs : s.settled) (window order : Byte) :
    kick (openRequest window order s) = openRequest window order s := by
  unfold openRequest
  split
  · exact kick_refuse hs ..
  · split
    · exact kick_refuse hs ..
    · split
      · exact kick_refuse hs ..
      · split
        · exact kick_refuse hs ..
        · split
          · exact kick_refuse hs ..
          · exact kick_of_kick hs.1 rfl rfl

theorem exec_openSession {s : State} {window order : Byte} (hs : s.settled)
    (hhead : s.intHead = some (Request.openSession window order).bytes) :
    exec .openSession s = .next (openRequest window order s) := by
  change execOpenSession s = _
  rw [execOpenSession, event_intTakes hs hhead (rowOf_openSession window order), decodeMessage_openSession]
  dsimp only
  rw [kick_openRequest hs]

/-! ## What the checks read (R97, R99, R100) -/

theorem replyOrderOf_code (o : ReplyOrder) : replyOrderOf o.code = some o := by
  cases o <;> rfl

/-- A reply-order code names no order exactly when it is above 1 (R99, section 12.5). -/
theorem replyOrderOf_eq_none_iff (b : Byte) : replyOrderOf b = none ↔ 1 < b.toNat := by
  have hzero : b = 0#8 ↔ b.toNat = 0 := BitVec.toNat_inj.symm
  have hone : b = 1#8 ↔ b.toNat = 1 := BitVec.toNat_inj.symm
  unfold replyOrderOf
  split
  · next h => simp [hzero.mp h]
  · next h0 =>
    split
    · next h => simp [hone.mp h]
    · next h1 =>
      rw [hzero] at h0
      rw [hone] at h1
      exact iff_of_true rfl (by omega)

theorem State.lowestFreeSlot_eq_find? (s : State) :
    s.lowestFreeSlot = Fin.find? fun k => (s.slot k).state == .free := by
  rw [Fin.find?_eq_find?_finRange]
  rfl

theorem State.lowestFreeSlot_eq_none_iff (s : State) :
    s.lowestFreeSlot = none ↔ ∀ k : SlotId, (s.slot k).state ≠ .free := by
  simp [s.lowestFreeSlot_eq_find?]

theorem State.lowestFreeSlot_eq_some_iff (s : State) (k : SlotId) :
    s.lowestFreeSlot = some k ↔ (s.slot k).state = .free ∧ ∀ j < k, (s.slot j).state ≠ .free := by
  simp [s.lowestFreeSlot_eq_find?]

theorem State.pool_eq (s : State) : s.pool = 48 - s.windowSum := rfl

/-- A FREE slot that takes a session takes its window out of the pool (R97). -/
theorem State.pool_setSlot_of_free {s : State} {k : SlotId} (hfree : (s.slot k).state = .free) {r : Slot}
    (hr : r.state ≠ .free) : (s.setSlot k r).pool = s.pool - r.window := by
  have hsum := s.windowSum_setSlot k r
  simp only [Slot.charge, if_pos hfree, if_neg hr, Nat.add_zero] at hsum
  rw [State.pool_eq, State.pool_eq, hsum, Nat.sub_sub]

theorem pool_openSlot {s : State} {k : SlotId} (hfree : (s.slot k).state = .free) (asked : Nat) (order : ReplyOrder) :
    (openSlot k asked order s).pool = s.pool - min asked s.pool :=
  State.pool_setSlot_of_free hfree (r := ⟨.opened, min asked s.pool, order, 0⟩) nofun

/-! ## The checks in order (R99) -/

section
variable {s : State} {window order : Byte}

theorem openRequest_of_deviceRefusal {r : Reason} (hd : settledDeviceRefusal s.stc.device = some r) :
    openRequest window order s = refuse 0#8 0#8 r s := by
  rw [openRequest, hd]

theorem openRequest_of_unknown_order (hd : settledDeviceRefusal s.stc.device = none) (ho : replyOrderOf order = none) :
    openRequest window order s = refuse 0#8 0#8 .badField s := by
  rw [openRequest, hd, ho]

variable {o : ReplyOrder}

theorem openRequest_of_bad_window (hd : settledDeviceRefusal s.stc.device = none) (ho : replyOrderOf order = some o)
    (hw : window.toNat = 0 ∨ 16 < window.toNat) : openRequest window order s = refuse 0#8 0#8 .badField s := by
  rw [openRequest, hd, ho]
  exact if_pos hw

theorem openRequest_of_no_slot (hd : settledDeviceRefusal s.stc.device = none) (ho : replyOrderOf order = some o)
    (hw : ¬ (window.toNat = 0 ∨ 16 < window.toNat)) (hk : s.lowestFreeSlot = none) :
    openRequest window order s = refuse 0#8 0#8 .noSlot s := by
  rw [openRequest, hd, ho, hk]
  exact if_neg hw

theorem openRequest_of_slot {k : SlotId} (hd : settledDeviceRefusal s.stc.device = none)
    (ho : replyOrderOf order = some o) (hw : ¬ (window.toNat = 0 ∨ 16 < window.toNat)) (hk : s.lowestFreeSlot = some k) :
    openRequest window order s = if s.pool = 0 then refuse 0#8 0#8 .noCredit s else openSlot k window.toNat o s := by
  rw [openRequest, hd, ho, hk]
  exact if_neg hw

end

theorem settledDeviceRefusal_of_resting {d : Device} (hd : d ∈ [.resting, .retained, .waking]) :
    settledDeviceRefusal d = some .resting := by
  revert hd
  cases d <;> decide

theorem settledDeviceRefusal_of_unconfigured_or_ready {d : Device} (hd : d ∈ [.unconfigured, .ready]) :
    settledDeviceRefusal d = none := by
  revert hd
  cases d <;> decide

/-- Settles O31: the checks of R99 in their order, each by its equation of `openRequest`, and the grant of R100. -/
theorem openGrantsTheLowestFreeSlot : Obligations.OpenGrantsTheLowestFreeSlot := by
  intro window order s hs hhead refused badField
  have hexec := exec_openSession hs hhead
  have hfields : badField ↔ (window.toNat = 0 ∨ 16 < window.toNat) ∨ replyOrderOf order = none := by
    rw [replyOrderOf_eq_none_iff, or_assoc]
  refine ⟨fun hinit => ?_, fun hrest => ?_, fun hd => ?_⟩
  · exact hexec.trans (congrArg _ (openRequest_of_deviceRefusal (hinit ▸ rfl)))
  · exact hexec.trans (congrArg _ (openRequest_of_deviceRefusal (settledDeviceRefusal_of_resting hrest)))
  have hpass := settledDeviceRefusal_of_unconfigured_or_ready hd
  cases ho : replyOrderOf order with
  | none =>
    have hbad : badField := hfields.mpr (Or.inr ho)
    exact ⟨fun _ => hexec.trans (congrArg _ (openRequest_of_unknown_order hpass ho)), fun h => absurd hbad h,
      fun h => absurd hbad h, fun _ _ h => absurd hbad h⟩
  | some o =>
    have hwindow : badField ↔ window.toNat = 0 ∨ 16 < window.toNat := by simp [hfields, ho]
    refine ⟨fun hbad => ?_, fun hgood hnone => ?_, fun hgood hfree hpool => ?_,
      fun order' k hgood hcode hpool hfree hlowest => ?_⟩
    · exact hexec.trans (congrArg _ (openRequest_of_bad_window hpass ho (hwindow.mp hbad)))
    · exact hexec.trans (congrArg _ (openRequest_of_no_slot hpass ho (hwindow.not.mp hgood)
        (s.lowestFreeSlot_eq_none_iff.mpr hnone)))
    · obtain ⟨k, hk⟩ : ∃ k, s.lowestFreeSlot = some k := by
        rw [← Option.ne_none_iff_exists', ne_eq, s.lowestFreeSlot_eq_none_iff]
        exact fun hnone => hfree.elim hnone
      have hslot := openRequest_of_slot hpass ho (hwindow.not.mp hgood) hk
      rw [if_pos hpool] at hslot
      exact hexec.trans (congrArg _ hslot)
    · obtain rfl : order' = o := Option.some.inj ((replyOrderOf_code order').symm.trans (hcode ▸ ho))
      have hslot := openRequest_of_slot hpass ho (hwindow.not.mp hgood)
        ((s.lowestFreeSlot_eq_some_iff k).mpr ⟨hfree, hlowest⟩)
      rw [if_neg hpool] at hslot
      exact ⟨openSlot k window.toNat order' s, hexec.trans (congrArg _ hslot), rfl, pool_openSlot hfree _ _⟩

end Sys2Proof.Machine
end

section
/-!
PROOFS. CLOSE without discard of an OPEN slot, and the refusals of either form of CLOSE (O32).
-/
namespace Sys2Proof.Machine

/-! ## CLOSE is taken (R102, R184) -/

/-- The two rows of CLOSE are told apart by bit 0 of the flags byte (R183). -/
theorem rowOf_close (slot : Byte) (discard : Bool) :
    rowOf (Request.close slot discard).bytes = if discard then .closeWithDiscard else .close := by
  have hflag : (oneByte (bit discard)).getLsbD 0 = discard := by cases discard <;> decide
  have hrow : rowOf (Request.close slot discard).bytes =
      if (oneByte (bit discard)).getLsbD 0 then .closeWithDiscard else .close := rfl
  rw [hrow, hflag]

theorem decodeMessage_close (slot : Byte) (discard : Bool) :
    decodeMessage (Request.close slot discard).bytes = .ok (.close slot discard) := by
  cases discard <;> rfl

/-- Both forms of CLOSE go through the checks of R102 and differ in what closes the slot. -/
theorem exec_close {s : State} {slot : Byte} {discard : Bool} (hs : s.settled)
    (hhead : s.intHead = some (Request.close slot discard).bytes) :
    exec (if discard then .closeWithDiscard else .closeSession) s =
      .next (kick (closeRequest slot (if discard then closeDiscarding else closeKeeping) s)) := by
  cases discard with
  | false =>
    change execCloseSession s = _
    exact (event_intTakes hs hhead (rowOf_close slot false) _).trans (by rw [decodeMessage_close]; rfl)
  | true =>
    change execCloseWithDiscard s = _
    exact (event_intTakes hs hhead (rowOf_close slot true) _).trans (by rw [decodeMessage_close]; rfl)

theorem exec_close_of_error {s : State} {slot : Byte} {discard : Bool} (hs : s.settled)
    (hhead : s.intHead = some (Request.close slot discard).bytes) {r : Reason} (hr : closeChecks s slot = .error r) :
    exec (if discard then .closeWithDiscard else .closeSession) s = .next (refuse slot 0#8 r s) := by
  rw [exec_close hs hhead, closeRequest, hr]
  exact congrArg _ (kick_refuse hs slot 0#8 r)

/-! ## The checks in order (R102) -/

/-- A slot number of 0 or above 4 names no slot (R113). -/
theorem slotOf_eq_none {slot : Byte} (h : slot.toNat = 0 ∨ 4 < slot.toNat) : slotOf slot = none := by
  have hne (n : Nat) (hn : 1 ≤ n ∧ n ≤ 4) : slot ≠ BitVec.ofNat 8 n := by
    rintro rfl
    rw [BitVec.toNat_ofNat] at h
    omega
  rw [slotOf, if_neg (hne 1 (by decide)), if_neg (hne 2 (by decide)), if_neg (hne 3 (by decide)),
    if_neg (hne 4 (by decide))]

theorem closeChecks_of_initializing {s : State} (hd : s.stc.device = .initializing) (slot : Byte) :
    closeChecks s slot = .error .notReady := if_pos hd

theorem closeChecks_of_no_slot {s : State} (hd : s.stc.device ≠ .initializing) {slot : Byte}
    (hslot : slotOf slot = none) : closeChecks s slot = .error .badField := by
  rw [closeChecks, if_neg hd, hslot]

theorem closeChecks_of_free_or_detached {s : State} {k : SlotId} (hd : s.stc.device ≠ .initializing)
    (hslot : (s.slot k).state = .free ∨ (s.slot k).state = .detached) :
    closeChecks s (slotByte k) = .error .noSession := by
  rcases hslot with h | h <;> simp only [closeChecks, if_neg hd, slotOf_slotByte, h]

theorem closeChecks_of_closing {s : State} {k : SlotId} (hd : s.stc.device ≠ .initializing)
    (hslot : (s.slot k).state = .closing) : closeChecks s (slotByte k) = .error .closing := by
  simp only [closeChecks, if_neg hd, slotOf_slotByte, hslot]

/-! ## The slot drains (R103, R104) -/

/-- CLOSE without discard in one equation: the slot is CLOSING, the frame leaves the intake, and CLOSED is produced at
once exactly when the slot has no entries (R103, R104). -/
theorem closeKeeping_eq (k : SlotId) (s : State) :
    closeKeeping k s =
      { depart { s with slots := s.slots.set k { s.slot k with state := .closing, discarded := 0 } } with
        waiting := s.waiting ++ if s.entryCount k = 0 then [.closed k 0] else [] } := by
  have hslot : (depart (s.setSlot k { s.slot k with state := .closing, discarded := 0 })).slot k =
      { s.slot k with state := .closing, discarded := 0 } := Four.get_set_same ..
  rw [closeKeeping, closeIfDrained_eq, hslot]
  simp only [true_and]
  rfl

theorem exec_closeSession_of_opened {s : State} {k : SlotId} (hs : s.settled)
    (hhead : s.intHead = some (Request.close (slotByte k) false).bytes) (hdevice : s.stc.device ≠ .initializing)
    (hopen : (s.slot k).state = .opened) : exec .closeSession s = .next (kick (closeKeeping k s)) := by
  refine (exec_close hs hhead).trans ?_
  rw [closeRequest, closeChecks_of_opened hdevice hopen]
  rfl

/-- Settles O32: the close by its equation, and the refusals by the first check of R102 that fails. -/
theorem closeDrainsTheSlotOrIsRefused : Obligations.CloseDrainsTheSlotOrIsRefused := by
  refine ⟨fun k s hs hhead hdevice hopen => ?_, fun slot discard s hs hhead => ?_⟩
  · have hexec := exec_closeSession_of_opened hs hhead hdevice hopen
    rw [closeKeeping_eq] at hexec
    refine ⟨fun hentries => ?_, fun hnone => ?_⟩
    · rw [hexec, if_neg hentries, List.append_nil]
      rfl
    · rw [hexec, if_pos hnone]
  · intro refused
    have hrefused {r : Reason} (hr : closeChecks s slot = .error r) : refused r := exec_close_of_error hs hhead hr
    refine ⟨fun hinit => hrefused (closeChecks_of_initializing hinit slot), fun hd => ⟨fun hbad => ?_, ?_⟩⟩
    · exact hrefused (closeChecks_of_no_slot hd (slotOf_eq_none hbad))
    · rintro k rfl
      exact ⟨fun hgone => hrefused (closeChecks_of_free_or_detached hd hgone),
        fun hclosing => hrefused (closeChecks_of_closing hd hclosing)⟩

end Sys2Proof.Machine
end

section
/-!
PROOFS. The profile record: its fields at their bytes, and the lowest-numbered bad field (O13).
-/
namespace Sys2Proof.Machine

/-! ## The notice mask (R131, field 10) -/

/-- The mask that field 10 of a record carries. -/
def maskOf (b : Byte) : NoticeMask :=
  { tempBand := b.getLsbD 0, suspectAdded := b.getLsbD 1, suspectFull := b.getLsbD 2
    sparesExhausted := b.getLsbD 3, restorationOverrun := b.getLsbD 4, noticesLost := b.getLsbD 5 }

theorem profileOf_mask (r : List Byte) : (profileOf r).mask = maskOf (byteAt r 10) := rfl

theorem maskOf_byte (m : NoticeMask) : maskOf m.byte = m := by
  have hbits : ∀ a b c d e f : Bool, maskOf (NoticeMask.byte ⟨a, b, c, d, e, f⟩) = ⟨a, b, c, d, e, f⟩ := by decide
  exact hbits ..

/-- The two reserved bits are all of the byte that the mask does not hold (R183). -/
theorem byte_maskOf {b : Byte} (h : b.toNat < 64) : (maskOf b).byte = b := by
  have hbytes : ∀ n : Fin 64, (maskOf (BitVec.ofNat 8 n.val)).byte = BitVec.ofNat 8 n.val := by decide
  simpa using hbytes ⟨b.toNat, h⟩

/-! ## The bad field (R133) -/

/-- Whether the byte of field `j` of a record is outside the values of R131. -/
def profileFieldBad (r : List Byte) (j : Nat) : Bool :=
  match j with
  | 2 | 3 | 4 | 7 | 8 | 9 => 1#8 < byteAt r j
  | 5 => byteAt r 5 = 0#8 || 15#8 < byteAt r 5
  | 6 => byteAt r 6 = 0#8 || 6#8 < byteAt r 6
  | 10 => !(byteAt r 10).getLsbD 5
  | _ => false

theorem find?_cons_ite {α : Type} (p : α → Bool) (a : α) (as : List α) :
    (a :: as).find? p = if p a = true then some a else as.find? p := by
  cases h : p a <;> simp [h]

/-- The checks of the fields are a search for the first bad one in ascending number. -/
theorem badProfileField_eq_find? (r : List Byte) : badProfileField r = (List.range 11).find? (profileFieldBad r) := by
  have hrange : List.range 11 = [0, 1, 2, 3, 4, 5, 6, 7, 8, 9, 10] := rfl
  simp only [hrange, find?_cons_ite, List.find?_nil, profileFieldBad, decide_eq_true_eq, Bool.false_eq_true, if_false,
    badProfileField]

theorem profileFieldBad_lt {r : List Byte} {j : Nat} (h : profileFieldBad r j = true) : j < 11 := by
  by_contra hj
  obtain ⟨k, rfl⟩ := Nat.exists_eq_add_of_le' (Nat.not_lt.mp hj)
  exact Bool.noConfusion h

theorem badProfileField_eq_some_iff (r : List Byte) (n : Nat) :
    badProfileField r = some n ↔ profileFieldBad r n = true ∧ ∀ j < n, ¬ profileFieldBad r j = true := by
  rw [badProfileField_eq_find?, List.find?_range_eq_some]
  simp only [Bool.not_eq_true', Bool.not_eq_true, List.mem_range]
  exact ⟨fun ⟨hn, _, hmin⟩ => ⟨hn, hmin⟩, fun ⟨hn, hmin⟩ => ⟨hn, profileFieldBad_lt hn, hmin⟩⟩

theorem badProfileField_eq_none_iff (r : List Byte) :
    badProfileField r = none ↔ ∀ j, profileFieldBad r j = false := by
  simp only [badProfileField_eq_find?, List.find?_eq_none, List.mem_range, Bool.not_eq_true]
  exact ⟨fun h j => Bool.eq_false_iff.mpr fun hj => Bool.eq_false_iff.mp (h j (profileFieldBad_lt hj)) hj,
    fun h j _ => h j⟩

/-- The ranges of R131, as numbers. -/
theorem profileFieldBad_iff (r : List Byte) (j : Nat) : profileFieldBad r j = true ↔
    (j ∈ [2, 3, 4, 7, 8, 9] ∧ 1 < (byteAt r j).toNat) ∨
    (j = 5 ∧ ((byteAt r 5).toNat = 0 ∨ 15 < (byteAt r 5).toNat)) ∨
    (j = 6 ∧ ((byteAt r 6).toNat = 0 ∨ 6 < (byteAt r 6).toNat)) ∨
    (j = 10 ∧ (byteAt r 10).getLsbD 5 = false) := by
  have hlt (k : Nat) (hk : k < 256) (b : Byte) : BitVec.ofNat 8 k < b ↔ k < b.toNat := by
    rw [BitVec.lt_def, BitVec.toNat_ofNat, Nat.mod_eq_of_lt hk]
  have hzero (b : Byte) : b = 0#8 ↔ b.toNat = 0 := BitVec.toNat_inj.symm
  unfold profileFieldBad
  split
  case h_10 => simp_all
  all_goals simp [hlt, hzero]

/-! ## Encode and decode -/

theorem eq_zero_or_one_of_not_lt {b : Byte} (h : ¬ 1#8 < b) : b = 0#8 ∨ b = 1#8 := by bv_omega

theorem oneByte_toNat (b : Byte) : oneByte b.toNat = b := by simp [oneByte]

/-- The label's two bytes give it back (R183). -/
theorem label_of_twoBytes (label : BitVec 16) :
    BitVec.ofNat 16 ((oneByte label.toNat).toNat + 256 * (oneByte (label.toNat / 256)).toNat) = label := by
  rw [oneByte_add_256_mul_oneByte label.isLt, BitVec.ofNat_toNat, BitVec.setWidth_eq]

theorem twoBytes_label (low high : Byte) :
    twoBytes (BitVec.ofNat 16 (low.toNat + 256 * high.toNat)).toNat = [low, high] := by
  have hlow := low.isLt
  have hhigh := high.isLt
  simp only [twoBytes, oneByte, List.cons.injEq, and_true]
  constructor <;> bv_omega

theorem Profile.wellFormed_iff (p : Profile) : p.wellFormed = true ↔
    (1 ≤ p.ageCap ∧ p.ageCap ≤ 15) ∧ (1 ≤ p.deferral ∧ p.deferral ≤ 6) ∧ p.mask.noticesLost = true := by
  simp [Profile.wellFormed, and_assoc]

/-- A number of the range 1 to `m` is held by its byte, which is within that range. -/
theorem oneByte_number {n m : Nat} (h : 1 ≤ n ∧ n ≤ m) (hm : m < 256) :
    (oneByte n).toNat = n ∧ (decide (oneByte n = 0#8) || decide (BitVec.ofNat 8 m < oneByte n)) = false := by
  have hvalue : (oneByte n).toNat = n := by
    rw [oneByte, BitVec.toNat_ofNat]
    omega
  have hzero : oneByte n ≠ 0#8 := fun h0 => by
    rw [h0] at hvalue
    have : 0 = n := hvalue
    omega
  have hrange : ¬ BitVec.ofNat 8 m < oneByte n := by
    rw [BitVec.lt_def, hvalue, BitVec.toNat_ofNat]
    omega
  exact ⟨hvalue, by simp [hzero, hrange]⟩

/-- The bytes of a profile in range are within the values of R131. -/
theorem badProfileField_bytes {p : Profile} (h : p.wellFormed = true) : badProfileField p.bytes = none := by
  obtain ⟨hage, hdeferral, hlost⟩ := p.wellFormed_iff.mp h
  obtain ⟨label, map, policy, wordOrder, ageCap, deferral, hot, writeBack, remapping, mask⟩ := p
  rw [badProfileField_eq_none_iff]
  intro j
  unfold profileFieldBad
  split
  · cases map <;> rfl
  · cases policy <;> rfl
  · cases wordOrder <;> rfl
  · cases hot <;> rfl
  · cases writeBack <;> rfl
  · cases remapping <;> rfl
  · exact (oneByte_number hage (by decide)).2
  · exact (oneByte_number hdeferral (by decide)).2
  · rw [← maskOf_byte mask] at hlost
    exact congrArg Bool.not hlost
  · rfl

/-- Every field of a profile in range is read back from its bytes. -/
theorem profileOf_bytes {p : Profile} (h : p.wellFormed = true) : profileOf p.bytes = p := by
  obtain ⟨hage, hdeferral, -⟩ := p.wellFormed_iff.mp h
  obtain ⟨label, map, policy, wordOrder, ageCap, deferral, hot, writeBack, remapping, mask⟩ := p
  simp only [profileOf, Profile.mk.injEq]
  refine ⟨label_of_twoBytes label, ?_, ?_, ?_, (oneByte_number hage (by decide)).1,
    (oneByte_number hdeferral (by decide)).1, ?_, ?_, ?_, maskOf_byte mask⟩
  · cases map <;> rfl
  · cases policy <;> rfl
  · cases wordOrder <;> rfl
  · cases hot <;> rfl
  · cases writeBack <;> rfl
  · cases remapping <;> rfl

/-- A record with no bad field and clear reserved bits is laid out again as it was. -/
theorem bytes_profileOf {r : List Byte} (hlength : r.length = 11) (hreserved : (byteAt r 10).toNat < 64)
    (h : badProfileField r = none) : (profileOf r).bytes = r := by
  rw [badProfileField_eq_none_iff] at h
  have hflag {j : Nat} {b : Byte} (hj : profileFieldBad r j = decide (1#8 < b)) : b = 0#8 ∨ b = 1#8 :=
    eq_zero_or_one_of_not_lt (of_decide_eq_false (hj ▸ h j))
  match r, hlength with
  | [low, high, b2, b3, b4, b5, b6, b7, b8, b9, b10], _ =>
    refine congrArg₂ (· ++ ·) (twoBytes_label low high) ?_
    simp only [List.cons.injEq, and_true]
    refine ⟨?_, ?_, ?_, oneByte_toNat b5, oneByte_toNat b6, ?_, ?_, ?_, byte_maskOf hreserved⟩
    · obtain rfl | rfl := hflag (j := 2) (b := b2) rfl <;> rfl
    · obtain rfl | rfl := hflag (j := 3) (b := b3) rfl <;> rfl
    · obtain rfl | rfl := hflag (j := 4) (b := b4) rfl <;> rfl
    · obtain rfl | rfl := hflag (j := 7) (b := b7) rfl <;> rfl
    · obtain rfl | rfl := hflag (j := 8) (b := b8) rfl <;> rfl
    · obtain rfl | rfl := hflag (j := 9) (b := b9) rfl <;> rfl

theorem wellFormed_profileOf {r : List Byte} (h : badProfileField r = none) : (profileOf r).wellFormed = true := by
  rw [badProfileField_eq_none_iff] at h
  have hgood (j : Nat) := (profileFieldBad_iff r j).not.mp (Bool.eq_false_iff.mp (h j))
  have hage : ¬ ((byteAt r 5).toNat = 0 ∨ 15 < (byteAt r 5).toNat) := fun hbad =>
    hgood 5 (Or.inr (Or.inl ⟨rfl, hbad⟩))
  have hdeferral : ¬ ((byteAt r 6).toNat = 0 ∨ 6 < (byteAt r 6).toNat) := fun hbad =>
    hgood 6 (Or.inr (Or.inr (Or.inl ⟨rfl, hbad⟩)))
  have hlost : ¬ (byteAt r 10).getLsbD 5 = false := fun hbad =>
    hgood 10 (Or.inr (Or.inr (Or.inr ⟨rfl, hbad⟩)))
  rw [Profile.wellFormed_iff]
  refine ⟨?_, ?_, Bool.eq_true_of_not_eq_false hlost⟩
  · change 1 ≤ (byteAt r 5).toNat ∧ (byteAt r 5).toNat ≤ 15
    omega
  · change 1 ≤ (byteAt r 6).toNat ∧ (byteAt r 6).toNat ≤ 6
    omega

/-- Settles O13: encode and decode field by field, and the search for the lowest-numbered bad field. -/
theorem profileRecordsDecode : Obligations.ProfileRecordsDecode := by
  refine ⟨fun p hp => ⟨rfl, badProfileField_bytes hp, profileOf_bytes hp⟩, fun r hlength hreserved hgood =>
    ⟨wellFormed_profileOf hgood, bytes_profileOf hlength hreserved hgood⟩, fun r n => ?_⟩
  intro bad
  simp only [badProfileField_eq_some_iff, profileFieldBad_iff]
  rfl

end Sys2Proof.Machine
end

section
/-!
PROOFS. SET PROFILE: staged in READY, under processing in UNCONFIGURED, and the refusals in order (O34).
-/
namespace Sys2Proof.Machine

/-! ## SET PROFILE is taken (R133, R184) -/

theorem rowOf_setProfile (record : List Byte) : rowOf (Request.setProfile record).bytes = .setProfile := rfl

theorem decodeMessage_setProfile {record : List Byte} (h : (Request.setProfile record).wellFormed = true) :
    decodeMessage (Request.setProfile record).bytes = .ok (.setProfile record) := by
  obtain ⟨hlength, hreserved⟩ := Bool.and_eq_true_iff.mp h
  have hkind : (Request.setProfile record).bytes.length = RequestKind.setProfile.length :=
    congrArg (· + 3) (beq_iff_eq.mp hlength)
  have hclear : reservedClear .setProfile (Request.setProfile record).bytes = true := hreserved
  exact (if_neg (not_not.mpr hkind)).trans (if_pos hclear)

/-- The record of every profile has its 11 bytes and clear reserved bits. -/
theorem setProfile_bytes_wellFormed (p : Profile) : (Request.setProfile p.bytes).wellFormed = true := by
  have hbits : ∀ a b c d e f : Bool, (NoticeMask.byte ⟨a, b, c, d, e, f⟩).extractLsb' 6 2 = 0#2 := by decide
  exact beq_iff_eq.mpr (hbits ..)

theorem exec_setProfile {s : State} (hs : s.settled) {record : List Byte}
    (hrecord : (Request.setProfile record).wellFormed = true)
    (hhead : s.intHead = some (Request.setProfile record).bytes) :
    exec .setProfile s = .next (kick (setProfileRequest record s)) := by
  change execSetProfile s = _
  rw [execSetProfile, event_intTakes hs hhead (rowOf_setProfile record), decodeMessage_setProfile hrecord]

/-! ## The checks in order (R133) -/

section
variable {s : State} {record : List Byte}

theorem setProfileRequest_of_deviceRefusal {r : Reason} (hd : settledDeviceRefusal s.stc.device = some r) :
    setProfileRequest record s = refuse 0#8 0#8 r s := by
  rw [setProfileRequest, hd]

theorem setProfileRequest_of_staged (hd : settledDeviceRefusal s.stc.device = none)
    (hstaged : s.prf.staged.isSome = true) : setProfileRequest record s = refuse 0#8 0#8 .profilePending s := by
  rw [setProfileRequest, hd]
  exact if_pos hstaged

theorem setProfileRequest_of_bad {n : Nat} (hd : settledDeviceRefusal s.stc.device = none)
    (hstaged : s.prf.staged = none) (hbad : badProfileField record = some n) :
    setProfileRequest record s = reply (.refused 0#8 0#8 .badProfile n) s := by
  simp [setProfileRequest, hd, hstaged, hbad]

theorem setProfileRequest_of_good (hd : settledDeviceRefusal s.stc.device = none)
    (hstaged : s.prf.staged = none) (hgood : badProfileField record = none) :
    setProfileRequest record s = takeProfile (profileOf record) s := by
  simp [setProfileRequest, hd, hstaged, hgood]

end

/-! ## The profile is taken (R134, R135) -/

theorem takeProfile_of_ready {s : State} (hd : s.stc.device = .ready) (p : Profile) :
    takeProfile p s = tell allLanes (depart { s with prf := { s.prf with staged := some p } }) := by
  rw [takeProfile, hd]

theorem takeProfile_of_unconfigured {s : State} (hd : s.stc.device = .unconfigured) (p : Profile) :
    takeProfile p s = { s with prf := { s.prf with processing := some p } } := by
  rw [takeProfile, hd]

/-- Settles O34: the two ways to take a profile in range, and the checks of R133 in their order. -/
theorem setProfileStagedOrTakenInUnconfigured : Obligations.SetProfileStagedOrTakenInUnconfigured := by
  refine ⟨fun p s hp hs hhead hstaged => ?_, fun record s hs hrecord hhead => ?_⟩
  · have hexec := exec_setProfile hs (setProfile_bytes_wellFormed p) hhead
    have hrequest (hd : settledDeviceRefusal s.stc.device = none) :
        setProfileRequest p.bytes s = takeProfile p s := by
      rw [setProfileRequest_of_good hd hstaged (badProfileField_bytes hp), profileOf_bytes hp]
    refine ⟨fun hd => ?_, fun hd => ?_⟩
    · rw [hexec, hrequest (hd ▸ rfl), takeProfile_of_ready hd]
    · rw [hexec, hrequest (hd ▸ rfl), takeProfile_of_unconfigured hd, kick_of_kick hs.1] <;> rfl
  · intro refused
    have hrefused {reason : Reason} {field : Nat}
        (h : setProfileRequest record s = reply (.refused 0#8 0#8 reason field) s) : refused reason field := by
      change exec .setProfile s = .next (reply _ s)
      rw [exec_setProfile hs hrecord hhead, h, kick_reply hs]
    refine ⟨fun hinit => ?_, fun hrest => ?_, fun hd => ?_⟩
    · exact hrefused (setProfileRequest_of_deviceRefusal (hinit ▸ rfl))
    · exact hrefused (setProfileRequest_of_deviceRefusal (settledDeviceRefusal_of_resting hrest))
    · have hpass := settledDeviceRefusal_of_unconfigured_or_ready hd
      exact ⟨fun hstaged => hrefused (setProfileRequest_of_staged hpass hstaged),
        fun n hstaged hbad => hrefused (setProfileRequest_of_bad hpass hstaged hbad)⟩

end Sys2Proof.Machine
end

section
/-!
PROOFS. GET PROFILE and GET TABLE: the answers, and where PROFILE STATE joins the class 1 list (O37).
-/
namespace Sys2Proof.Machine

/-! ## GET PROFILE and GET TABLE are taken (R144, R180, R184) -/

theorem kick_unlessInitializing {s : State} (hs : s.settled) {answer : State → State}
    (h : kick (answer s) = answer s) : kick (unlessInitializing answer s) = unlessInitializing answer s := by
  unfold unlessInitializing
  split
  · exact kick_refuse hs ..
  · exact h

theorem exec_getProfile {s : State} (hs : s.settled) (hhead : s.intHead = some Request.getProfile.bytes) :
    exec .getProfile s = .next (unlessInitializing produceProfileState s) := by
  change execGetProfile s = _
  rw [execGetProfile, event_intTakes hs hhead (row := .getProfile) rfl]
  have hkick : kick (produceProfileState s) = produceProfileState s :=
    kick_of_kick hs.1 (produceProfileState_link s) (produceProfileState_pins s)
  exact congrArg _ (kick_unlessInitializing hs hkick)

/-- GET TABLE(REMAP) is the row of table code 1, GET TABLE(SUSPECT) that of every other code (log entry 9). -/
theorem rowOf_getTable (code lane : Byte) :
    rowOf (Request.getTable code lane).bytes = if code = 1#8 then .getTableRemap else .getTableSuspect := rfl

theorem decodeMessage_getTable {code lane : Byte} (h : (Request.getTable code lane).wellFormed = true) :
    decodeMessage (Request.getTable code lane).bytes = .ok (.getTable code lane) :=
  if_pos h

theorem kick_getTableRequest {s : State} (hs : s.settled) (code lane : Byte) :
    kick (getTableRequest code lane s) = getTableRequest code lane s :=
  kick_unlessInitializing hs (by
    split
    · exact kick_reply hs _
    · split
      · split
        · exact kick_refuse hs ..
        · exact kick_reply hs _
      · exact kick_refuse hs ..)

/-- Both rows of GET TABLE go to one owner (R180). -/
theorem exec_getTable {s : State} (hs : s.settled) {code lane : Byte}
    (hfields : (Request.getTable code lane).wellFormed = true)
    (hhead : s.intHead = some (Request.getTable code lane).bytes) :
    exec (if code = 1#8 then .getTableRemap else .getTableSuspect) s = .next (getTableRequest code lane s) := by
  split
  · next hc =>
    change execGetTableRemap s = _
    rw [execGetTableRemap, event_intTakes hs hhead ((rowOf_getTable code lane).trans (if_pos hc)),
      decodeMessage_getTable hfields]
    exact congrArg _ (kick_getTableRequest hs code lane)
  · next hc =>
    change execGetTableSuspect s = _
    rw [execGetTableSuspect, event_intTakes hs hhead ((rowOf_getTable code lane).trans (if_neg hc)),
      decodeMessage_getTable hfields]
    exact congrArg _ (kick_getTableRequest hs code lane)

/-! ## GET TABLE by its table code (R180) -/

section
variable {s : State}

theorem getTableRequest_of_initializing (hinit : s.stc.device = .initializing) (code lane : Byte) :
    getTableRequest code lane s = refuse 0#8 0#8 .notReady s :=
  unlessInitializing_of_initializing hinit _

theorem getTableRequest_suspect (hd : s.stc.device ≠ .initializing) (lane : Byte) :
    getTableRequest 0#8 lane s = reply (.suspectTable s.itg.suspects) s :=
  unlessInitializing_of_ne hd _

theorem getTableRequest_remap (hd : s.stc.device ≠ .initializing) {lane : Byte} {a : LaneId}
    (ha : laneOf lane = some a) :
    getTableRequest 1#8 lane s = reply (.remapTable a (s.lane a).remaps (s.lane a).spares) s := by
  rw [getTableRequest, unlessInitializing_of_ne hd, ha]
  rfl

theorem getTableRequest_of_bad_lane (hd : s.stc.device ≠ .initializing) {lane : Byte} (hlane : laneOf lane = none) :
    getTableRequest 1#8 lane s = refuse 0#8 0#8 .badField s := by
  rw [getTableRequest, unlessInitializing_of_ne hd, hlane]
  rfl

theorem getTableRequest_of_bad_code (hd : s.stc.device ≠ .initializing) {code : Byte} (h0 : code ≠ 0#8)
    (h1 : code ≠ 1#8) (lane : Byte) : getTableRequest code lane s = refuse 0#8 0#8 .badField s := by
  rw [getTableRequest, unlessInitializing_of_ne hd, if_neg h0, if_neg h1]

end

theorem laneOf_oneByte : ∀ a : LaneId, laneOf (oneByte a.val) = some a := by decide

theorem laneOf_eq_none {lane : Byte} (h : 7 < lane.toNat) : laneOf lane = none := dif_neg (by omega)

/-! ## Where PROFILE STATE joins the class 1 list (R144, R159) -/

theorem produceProfileState_of_none_last {s : State} (h : s.appliedLast = 0) :
    produceProfileState s = reply (.profileState s.prf.active s.prf.staged) s := if_pos h

/-- Of the PROFILE APPLIED replies that stand last it passes the number drawn, and all of them if that is more. -/
theorem produceProfileState_of_last {s : State} {before after : List Waiting} (hsplit : s.waiting = before ++ after)
    (hlast : s.appliedLast = after.length) (hafter : after ≠ []) :
    produceProfileState s = { s with
      waiting := before ++ after.take (after.length - Config.profileAppliedPassed s.draws) ++
        .int (.profileState s.prf.active s.prf.staged) ::
          after.drop (after.length - Config.profileAppliedPassed s.draws)
      draws := s.draws + 1 } := by
  have hsome : s.appliedLast ≠ 0 := by simpa [hlast] using hafter
  have hahead : s.waiting.length - min s.appliedLast (Config.profileAppliedPassed s.draws) =
      before.length + (after.length - Config.profileAppliedPassed s.draws) := by
    rw [hsplit, hlast, List.length_append]
    omega
  simp only [produceProfileState, if_neg hsome, hahead]
  simp only [hsplit, List.take_length_add_append, List.drop_length_add_append]

/-- Settles O37: GET PROFILE by the replies that stand last, GET TABLE by its code. -/
theorem profileAndTablesAnswered : Obligations.ProfileAndTablesAnswered := by
  intro s hs answer initializing
  refine ⟨fun hhead => ?_, fun hhead => ?_, fun lane hhead => ?_, fun code lane hcode hhead => ?_⟩
  · have hexec := exec_getProfile hs hhead
    refine ⟨fun hinit => ?_, fun hd before after hsplit hafter hbefore => ?_⟩
    · exact hexec.trans (congrArg _ (unlessInitializing_of_initializing hinit _))
    have hlast : s.appliedLast = after.length := by
      refine appliedLast_split before after s hsplit (fun w hw => ?_) (fun w hw => ?_)
      · obtain ⟨label, rfl⟩ := hafter w hw
        rfl
      · cases w with
        | profileApplied label => exact absurd hw (hbefore label)
        | int m | closed k n | stc r => rfl
    rw [unlessInitializing_of_ne hd] at hexec
    refine ⟨fun hnone => ?_, fun hsome => ?_⟩
    · exact hexec.trans (congrArg _ (produceProfileState_of_none_last (by rw [hlast, hnone]; rfl)))
    · exact hexec.trans (congrArg _ (produceProfileState_of_last hsplit hlast hsome))
  · have hexec := exec_getTable (lane := 0#8) hs rfl hhead
    exact ⟨fun hinit => hexec.trans (congrArg _ (getTableRequest_of_initializing hinit _ _)),
      fun hd => hexec.trans (congrArg _ (getTableRequest_suspect hd _))⟩
  · have hexec := exec_getTable hs rfl hhead
    refine ⟨fun hinit => hexec.trans (congrArg _ (getTableRequest_of_initializing hinit _ _)), fun a hd ha => ?_,
      fun hd hlane => ?_⟩
    · exact hexec.trans (congrArg _ (getTableRequest_remap hd (ha ▸ laneOf_oneByte a)))
    · exact hexec.trans (congrArg _ (getTableRequest_of_bad_lane hd (laneOf_eq_none hlane)))
  · have h0 : code ≠ 0#8 := fun h => absurd hcode (h ▸ by decide)
    have h1 : code ≠ 1#8 := fun h => absurd hcode (h ▸ by decide)
    have hexec := exec_getTable hs (by simp [Request.wellFormed, h0]) hhead
    rw [if_neg h1] at hexec
    exact ⟨fun hinit => hexec.trans (congrArg _ (getTableRequest_of_initializing hinit _ _)),
      fun hd => hexec.trans (congrArg _ (getTableRequest_of_bad_code hd h0 h1 lane))⟩

end Sys2Proof.Machine
end

section
/-!
PROOFS. The application of a profile: when it is due, the entries it releases, the FENCEs that complete behind them, and
the lanes' decisions after it (O53).
-/
namespace Sys2Proof.Machine

/-! ## When it is due (R134, R137) -/

theorem State.lanesClosed_iff (s : State) : s.lanesClosed = true ↔ ∀ a : LaneId, (s.lane a).state = .closed := by
  simp [State.lanesClosed, mem_allLanes]

theorem State.toApply_iff (s : State) (p : Profile) : s.toApply = some p ↔
    (∀ a : LaneId, (s.lane a).state = .closed) ∧
      (s.stc.device = .ready ∧ s.prf.staged = some p ∧ (∀ e ∈ s.table, e.state = .profileHeld ∨ e.state = .replyWait) ∨
        s.stc.device = .unconfigured ∧ s.prf.processing = some p) := by
  rw [← s.lanesClosed_iff]
  cases hd : s.stc.device with
  | ready => simpa [State.toApply, hd, and_comm (b := s.prf.staged = some p)] using and_left_comm
  | unconfigured => simp [State.toApply, hd]
  | initializing | resting | retained | waking => simp [State.toApply, hd]

theorem exec_profileApplication {s : State} {p : Profile} (hr : s.running = true) (h : s.toApply = some p) :
    exec .profileApplication s = .next (kick (application p s)) := by
  have hdue : s.due = some .application := by simp [State.due, hr, h]
  change internal .application s = _
  simp only [internal, if_pos hdue, perform, h]

/-! ## The decisions of lanes none of which is HELD (R48) -/

/-- State `t` differs from `s` at most in what the lanes do. -/
def State.SameButLaneStates (s t : State) : Prop :=
  t = { s with lanes := t.lanes } ∧ ∀ a : LaneId, t.lane a = { s.lane a with state := (t.lane a).state }

theorem State.SameButLaneStates.setLaneState {s t : State} (h : s.SameButLaneStates t) (a : LaneId) (st : LaneState) :
    s.SameButLaneStates (t.setLaneState a st) := by
  obtain ⟨hrest, hlanes⟩ := h
  refine ⟨?_, fun b => ?_⟩
  · rw [hrest]
    rfl
  · rw [State.setLaneState_lane]
    split
    · next hb => rw [hlanes a, hb]
    · exact hlanes b

/-- A lane that is not HELD serves no entry: its decision begins an operation of its own or nothing (R55, R56). -/
theorem decideLane_of_not_held {s : State} {a : LaneId} (h : ∀ p, (s.lane a).state ≠ .held p) :
    decideLane s a = s ∨ ∃ st : LaneState, (∀ p, st ≠ .held p) ∧ decideLane s a = s.setLaneState a st := by
  unfold decideLane act
  split
  · next hheld => exact absurd hheld (h _)
  · exact Or.inr ⟨.opening _, nofun, rfl⟩
  · next hheld => exact absurd hheld (h _)
  · exact Or.inr ⟨.restoring, nofun, rfl⟩
  · exact Or.inl rfl

theorem sameButLaneStates_tell (lanes : List LaneId) {s : State} (h : ∀ a p, (s.lane a).state ≠ .held p) :
    s.SameButLaneStates (tell lanes s) := by
  refine (keeps_tell (P := fun t => s.SameButLaneStates t ∧ ∀ a p, (t.lane a).state ≠ .held p) (fun a t ht => ?_) lanes
    s ⟨⟨rfl, fun _ => rfl⟩, h⟩).1
  obtain ⟨hsame, hnone⟩ := ht
  rcases decideLane_of_not_held (hnone a) with heq | ⟨st, hst, heq⟩ <;> simp only [heq]
  · exact ⟨hsame, hnone⟩
  · refine ⟨hsame.setLaneState a st, fun b p => ?_⟩
    rw [State.setLaneState_lane]
    split
    · exact hst p
    · exact hnone b p

/-! ## The entries released (R5, R24, R35) -/

/-- What an application makes of an entry before the FENCEs are checked. -/
def Entry.released (p : Profile) (e : Entry) : Entry :=
  if e.state = .profileHeld then releaseEntry (some p) e else e

/-- A FENCE that is checked at an application: it is held, or in FENCE_WAIT already. -/
def Entry.Waits (e : Entry) : Prop := e.kind = .fence ∧ (e.state = .profileHeld ∨ e.state = .fenceWait)

theorem Entry.released_key (p : Profile) (e : Entry) : (e.released p).key = e.key := by
  unfold Entry.released
  split
  · exact releaseEntry_key _ e
  · rfl

theorem Entry.released_of_not_held {p : Profile} {e : Entry} (h : e.state ≠ .profileHeld) : e.released p = e := if_neg h

theorem Entry.released_of_address {p : Profile} {e : Entry} {address : Nat} (ha : e.kind.address = some address)
    (h : e.state = .profileHeld) :
    e.released p = { e with state := .queued, location := some (locate p.map address) } := by
  rw [Entry.released, if_pos h]
  unfold releaseEntry
  rw [ha]

theorem Entry.released_of_waits {p : Profile} {e : Entry} (h : e.Waits) :
    e.released p = { e with state := .fenceWait } := by
  obtain ⟨hkind, hheld | hwait⟩ := h
  · rw [Entry.released, if_pos hheld]
    unfold releaseEntry
    rw [hkind]
    rfl
  · rw [Entry.released_of_not_held (by simp [hwait]), ← hwait]

theorem EntryKind.address_eq_none_iff (kind : EntryKind) : kind.address = none ↔ kind = .fence := by
  cases kind <;> simp [EntryKind.address]

/-- Every entry is a FENCE that is checked, a held entry of another kind, or left as it is. -/
theorem Entry.released_cases (p : Profile) (e : Entry) :
    (e.Waits ∧ e.released p = { e with state := .fenceWait }) ∨
    (¬ e.Waits ∧ e.state = .profileHeld ∧ ∃ address : Nat, e.kind.address = some address ∧
      e.released p = { e with state := .queued, location := some (locate p.map address) }) ∨
    (¬ e.Waits ∧ e.state ≠ .profileHeld ∧ e.released p = e) := by
  by_cases hwaits : e.Waits
  · exact Or.inl ⟨hwaits, released_of_waits hwaits⟩
  by_cases hheld : e.state = .profileHeld
  · cases ha : e.kind.address with
    | none => exact absurd ⟨e.kind.address_eq_none_iff.mp ha, Or.inl hheld⟩ hwaits
    | some address => exact Or.inr (Or.inl ⟨hwaits, hheld, address, rfl, released_of_address ha hheld⟩)
  · exact Or.inr (Or.inr ⟨hwaits, hheld, released_of_not_held hheld⟩)

theorem Entry.released_waiting_iff (p : Profile) (e : Entry) :
    (e.released p).kind = .fence ∧ (e.released p).state = .fenceWait ↔ e.Waits := by
  rcases e.released_cases p with ⟨hwaits, h⟩ | ⟨hwaits, -, address, ha, h⟩ | ⟨hwaits, hheld, h⟩ <;> rw [h]
  · exact iff_of_true ⟨hwaits.1, rfl⟩ hwaits
  · exact iff_of_false nofun hwaits
  · exact iff_of_false (fun ⟨hkind, hst⟩ => hwaits ⟨hkind, Or.inr hst⟩) hwaits

theorem Entry.released_replyWait_iff (p : Profile) (e : Entry) :
    (e.released p).state = .replyWait ↔ e.state = .replyWait := by
  rcases e.released_cases p with ⟨⟨-, hst | hst⟩, h⟩ | ⟨-, hst, address, ha, h⟩ | ⟨-, -, h⟩ <;> rw [h] <;> simp [hst]

theorem Entry.released_letsPass_iff (p : Profile) (e : Entry) :
    (e.released p).LetsPass ↔ e.state = .replyWait ∨ e.Waits :=
  or_congr (e.released_replyWait_iff p) (e.released_waiting_iff p)

/-! ## The FENCEs that complete, by their places in the table (R26) -/

/-- Whether a FENCE completes behind the entries that the checks have reached, youngest first, and the entries `before`
it that they have yet to reach, oldest first. Keys play no part, so this stands for any table. -/
def Entry.CompletesBehind (x : Entry) (reached before : List Entry) : Prop :=
  x.kind = .fence ∧ x.state = .fenceWait ∧ (∀ o ∈ reached, o.key.slot = x.key.slot → o.state = .replyWait) ∧
    ∀ o ∈ before, o.key.slot = x.key.slot → o.LetsPass

/-- A check passed to the next entry: one whose FENCE completes lets the younger ones pass. -/
theorem completesBehind_of_done {reached before : List Entry} {e x : Entry} (h : fenceDone reached e = true) :
    x.CompletesBehind (e.completed :: reached) before ↔ x.CompletesBehind reached (e :: before) := by
  obtain ⟨hkind, hst, -⟩ := (fenceDone_iff reached e).mp h
  have hlets : e.LetsPass := Or.inr ⟨hkind, hst⟩
  simp only [Entry.CompletesBehind, List.mem_cons, forall_eq_or_imp, hlets, Entry.completed, implies_true, true_and]

/-- One whose check fails lets them pass only if it has ended its array work. -/
theorem completesBehind_of_not_done {reached before : List Entry} {e x : Entry} (h : ¬ fenceDone reached e = true) :
    x.CompletesBehind (e :: reached) before ↔ x.CompletesBehind reached (e :: before) := by
  rw [fenceDone_iff] at h
  simp only [Entry.CompletesBehind, List.mem_cons, forall_eq_or_imp]
  refine and_congr_right fun _ => and_congr_right fun _ => ?_
  constructor
  · rintro ⟨⟨he, hreached⟩, hbefore⟩
    exact ⟨hreached, fun hslot => Or.inl (he hslot), hbefore⟩
  · rintro ⟨hreached, he, hbefore⟩
    refine ⟨⟨fun hslot => (he hslot).resolve_right fun ⟨hkind, hst⟩ => h ?_, hreached⟩, hbefore⟩
    exact ⟨hkind, hst, fun o ho hoe => hreached o ho (hoe.trans hslot)⟩

/-- What stands at an entry's place after every FENCE has been checked. -/
theorem completeFencesFrom_getElem? {x : Entry} {after : List Entry} : ∀ before reached : List Entry,
    let now := (completeFencesFrom (fun _ => true) reached (before ++ x :: after)).1[before.length]?
    (x.CompletesBehind reached before → now = some x.completed) ∧ (¬ x.CompletesBehind reached before → now = some x)
  | [], reached => by
    have hdone : x.CompletesBehind reached [] ↔ fenceDone reached x = true := by
      simp [Entry.CompletesBehind, fenceDone_iff]
    rw [hdone, List.nil_append]
    rcases completeFencesFrom_cons (fun _ => true) reached x after with ⟨⟨-, hx⟩, h⟩ | ⟨hx, h⟩ <;> rw [h]
    · exact ⟨fun _ => rfl, fun hn => absurd hx hn⟩
    · exact ⟨fun hc => absurd ⟨rfl, hc⟩ hx, fun _ => rfl⟩
  | e :: before, reached => by
    rw [List.cons_append]
    rcases completeFencesFrom_cons (fun _ => true) reached e (before ++ x :: after) with
      ⟨⟨-, he⟩, h⟩ | ⟨he, h⟩ <;> rw [h]
    · rw [← completesBehind_of_done he]
      exact completeFencesFrom_getElem? before _
    · rw [← completesBehind_of_not_done fun hd => he ⟨rfl, hd⟩]
      exact completeFencesFrom_getElem? before _

/-- Whether an entry, as it was and as it is, has come to be in REPLY_WAIT. -/
def cameToReplyWait (x : Entry × Entry) : Bool := x.1.state != .replyWait && x.2.state == .replyWait

/-- The FENCEs that complete are the entries that come to be in REPLY_WAIT, in acceptance order (R26, R30). -/
theorem completeFencesFrom_snd (check : Entry → Bool) : ∀ reached es : List Entry,
    (completeFencesFrom check reached es).2 =
      ((es.zip (completeFencesFrom check reached es).1).filter cameToReplyWait).map (fun x => x.1.key)
  | _, [] => rfl
  | reached, e :: rest => by
    rcases completeFencesFrom_cons check reached e rest with ⟨⟨-, hdone⟩, h⟩ | ⟨-, h⟩ <;> rw [h]
    · obtain ⟨-, hst, -⟩ := (fenceDone_iff reached e).mp hdone
      have hnew : cameToReplyWait (e, e.completed) = true := by
        simp [cameToReplyWait, hst, Entry.completed]
      rw [List.zip_cons_cons, List.filter_cons_of_pos hnew, List.map_cons, ← completeFencesFrom_snd check _ rest]
    · have hsame : ¬ cameToReplyWait (e, e) = true := by simp [cameToReplyWait]
      rw [List.zip_cons_cons, List.filter_cons_of_neg hsame, ← completeFencesFrom_snd check _ rest]

/-! ## The table after the application (R35, R138) -/

/-- The entries after an application, and the FENCEs that completed at it. -/
def afterApplication (p : Profile) (table : List Entry) : List Entry × List EntryKey :=
  completeFencesFrom (fun _ => true) [] (table.map (Entry.released p))

theorem afterApplication_keys (p : Profile) (table : List Entry) :
    (afterApplication p table).1.map (·.key) = table.map (·.key) := by
  rw [afterApplication, completeFencesFrom_keys, List.map_map]
  exact List.map_congr_left fun e _ => e.released_key p

theorem afterApplication_fences (p : Profile) (table : List Entry) :
    (afterApplication p table).2 =
      ((table.zip (afterApplication p table).1).filter cameToReplyWait).map (fun x => x.1.key) := by
  have hstate (e f : Entry) : cameToReplyWait (e.released p, f) = cameToReplyWait (e, f) := by
    simp only [cameToReplyWait, bne, beq_eq_decide, e.released_replyWait_iff p]
  rw [afterApplication, completeFencesFrom_snd, List.zip_map_left, List.filter_map, List.map_map]
  simp only [Function.comp_def, Prod.map, hstate, Entry.released_key, id]

theorem afterApplication_getElem? (p : Profile) (older younger : List Entry) (e : Entry) :
    let now := (afterApplication p (older ++ e :: younger)).1[older.length]?
    let completes := e.Waits ∧ ∀ o ∈ older, o.key.slot = e.key.slot → o.state = .replyWait ∨ o.Waits
    (completes → now = some (e.released p).completed) ∧ (¬ completes → now = some (e.released p)) := by
  have hcompletes : (e.released p).CompletesBehind [] (older.map (Entry.released p)) ↔
      e.Waits ∧ ∀ o ∈ older, o.key.slot = e.key.slot → o.state = .replyWait ∨ o.Waits := by
    rw [Entry.CompletesBehind, ← and_assoc, e.released_waiting_iff]
    simp only [List.not_mem_nil, false_implies, implies_true, true_and, List.forall_mem_map, Entry.released_key,
      Entry.released_letsPass_iff]
  have hplace := completeFencesFrom_getElem? (x := e.released p) (after := younger.map (Entry.released p))
    (older.map (Entry.released p)) []
  rw [hcompletes, List.length_map] at hplace
  rw [afterApplication, List.map_append, List.map_cons]
  exact hplace

/-! ## The application (R69, R134, R138, R140) -/

theorem Lane.reevaluate_eq (deferral : Nat) (l : Lane) : l.reevaluate deferral = { l with
    forced := if (deferral : Int) ≤ l.debt then true
      else if l.debt ≤ max ((deferral : Int) - 3) 0 then false else l.forced } := by
  rw [← clearLevel_eq, Lane.reevaluate]
  split
  · rfl
  · split <;> rfl

/-- The state at an application, before the lanes decide. -/
def applied (p : Profile) (s : State) : State :=
  { s with
    prf := { active := some p, staged := none, processing := none }
    stc := { s.stc with device := .ready }
    waiting := s.waiting ++
      [if s.stc.device = .unconfigured then .int (.profileApplied p.label) else .profileApplied p.label]
    lanes := s.lanes.map (Lane.reevaluate p.deferral)
    table := (afterApplication p s.table).1
    replies := s.replies ++ (afterApplication p s.table).2 }

theorem application_eq {s : State} {p : Profile} (h : s.toApply = some p) :
    application p s = tell allLanes (applied p s) := by
  obtain ⟨-, ⟨hd, -⟩ | ⟨hd, -⟩⟩ := (s.toApply_iff p).mp h
  · have hstc : { s.stc with device := .ready } = s.stc := by rw [← hd]
    simp only [application, applied, hd, hstc]
    rfl
  · simp only [application, applied, hd]
    rfl

theorem applied_not_held {s : State} {p : Profile} (h : s.toApply = some p) (a : LaneId) (q : PageName) :
    ((applied p s).lane a).state ≠ .held q := by
  obtain ⟨hclosed, -⟩ := (s.toApply_iff p).mp h
  have hstate : ((applied p s).lane a).state = .closed := by
    rw [← hclosed a, ← (s.lane a).reevaluate_state p.deferral]
    exact congrArg Lane.state (Eight.get_map _ s.lanes a)
  simp [hstate]

/-- Settles O53: the condition, the state at the application, the entries by their places, and the decisions after it. -/
theorem profileApplicationReleasesTheHeldEntries : Obligations.ProfileApplicationReleasesTheHeldEntries := by
  refine ⟨State.toApply_iff, fun s p hk hr h =>
    ⟨(afterApplication p s.table).1, (afterApplication p s.table).2, ?_⟩⟩
  intro u t
  have hu : u = applied p s := by
    simp only [u, applied]
    rw [funext (Lane.reevaluate_eq p.deferral)]
  have hsame : u.SameButLaneStates (tell allLanes u) := sameButLaneStates_tell allLanes (hu ▸ applied_not_held h)
  obtain ⟨hrest, hlanes⟩ := hsame
  have ht : t = tell allLanes u := kick_of_kick hk (by rw [hrest]) (by rw [hrest])
  refine ⟨?_, ht ▸ hrest, ht ▸ hlanes, afterApplication_keys p s.table, afterApplication_fences p s.table, ?_⟩
  · rw [exec_profileApplication hr h, application_eq h, ← hu]
  · intro older younger e htable now waits done
    obtain ⟨hdone, hnot⟩ := htable ▸ afterApplication_getElem? p older younger e
    refine ⟨fun address ha hheld => ?_, fun hwaits hd => ?_, fun hwaits hd => ?_, fun hheld hwaits => ?_⟩
    · have hkind : ¬ e.Waits := fun ⟨hfence, _⟩ => by simp [hfence, EntryKind.address] at ha
      rw [← Entry.released_of_address ha hheld]
      exact hnot fun ⟨hw, _⟩ => hkind hw
    · have hcompleted := hdone ⟨hwaits, hd⟩
      rw [Entry.released_of_waits hwaits] at hcompleted
      exact hcompleted
    · rw [← Entry.released_of_waits (p := p) hwaits]
      exact hnot fun ⟨_, hw⟩ => hd hw
    · rw [← Entry.released_of_not_held (p := p) hheld]
      exact hnot fun ⟨hw, _⟩ => hwaits hw

end Sys2Proof.Machine
end

section
/-!
PROOFS. The due steps: what a grant does, why the due steps of every state come to an end, and that every command but
their own finds them taken (O2, O3, O55).
-/
namespace Sys2Proof.Machine

/-! ## Which step is due (R159) -/

/-- A step is due for one of three reasons, and a grant only when neither of the other two holds. -/
theorem due_eq_some_cases {s : State} {d : Due} (h : s.due = some d) :
    (d = .application ∧ ∃ p, s.toApply = some p) ∨ (d = .drain ∧ s.drained = true) ∨
      (s.granting ∧ s.grantDue = some d) := by
  unfold State.due at h
  split at h
  · cases h
  · next hr =>
    split at h
    · next ha => exact Or.inl ⟨(Option.some.inj h).symm, Option.isSome_iff_exists.mp ha⟩
    · next ha =>
      split at h
      · next hd => exact Or.inr (Or.inl ⟨(Option.some.inj h).symm, hd⟩)
      · next hd =>
        split at h
        · next hroom => exact Or.inr (Or.inr ⟨⟨by simpa using hr, by simpa using ha, by simpa using hd, hroom⟩, h⟩)
        · cases h

theorem due_of_granting {s : State} (h : s.granting) : s.due = s.grantDue := by
  obtain ⟨hr, ha, hd, hroom⟩ := h
  simp [State.due, hr, ha, hd, hroom]

/-- A drain ends only in RESTING (R169). -/
theorem resting_of_drained {s : State} (h : s.drained = true) : s.stc.device = .resting := by
  simp only [State.drained, Bool.and_eq_true, beq_iff_eq] at h
  obtain ⟨⟨hdevice, -⟩, -⟩ := h
  exact hdevice

/-! ## What a grant does (R33, R105, R114, R151, R159, R176) -/

theorem grantEntry_of_candidate {s : State} {e : Entry} (h : s.candidate = some e) :
    grantEntry s = freeEntry e.key (enqueue (entryReply s.wordOrder e) s) := by
  simp only [grantEntry, h]

/-- From `s` to `t` one message joins the outbound queue; the transmission, the profiles and the device stay. -/
structure State.Granted (s t : State) : Prop where
  outbound : ∃ m : Message, t.link.outbound = s.link.outbound ++ [m]
  transmission : t.link.transmission = s.link.transmission
  prf : t.prf = s.prf
  stc : t.stc = s.stc

theorem granted_grantClass1 {s : State} {w : Waiting} {ws : List Waiting} (h : s.waiting = w :: ws) :
    s.Granted (grantClass1 s) := by
  unfold grantClass1
  rw [h]
  cases w with
  | int m => exact ⟨⟨_, rfl⟩, rfl, rfl, rfl⟩
  | closed k n => exact ⟨⟨_, rfl⟩, rfl, rfl, rfl⟩
  | profileApplied label => exact ⟨⟨_, rfl⟩, rfl, rfl, rfl⟩
  | stc r => exact ⟨⟨_, rfl⟩, rfl, rfl, rfl⟩

theorem granted_grantEntry {s : State} {e : Entry} (h : s.candidate = some e) : s.Granted (grantEntry s) := by
  rw [grantEntry_of_candidate h, freeEntry_eq]
  exact ⟨⟨_, rfl⟩, rfl, rfl, rfl⟩

theorem granted_grantNotice {s : State} {n : Notice} {ns : List Notice} (h : s.snu.queue = n :: ns) :
    s.Granted (grantNotice s) := by
  unfold grantNotice
  rw [h]
  exact ⟨⟨_, rfl⟩, rfl, rfl, rfl⟩

/-- Every grant that is due grants: a message joins the outbound queue, and the sender chooses. -/
theorem perform_of_grantDue {s : State} {d : Due} (h : s.grantDue = some d) :
    ∃ t, s.Granted t ∧ perform d s = kick t := by
  unfold State.grantDue at h
  split at h
  · next hw => cases h; exact ⟨_, granted_grantClass1 hw, rfl⟩
  · next hw => cases h; exact ⟨_, granted_grantClass1 hw, rfl⟩
  · next hw => cases h; exact ⟨_, granted_grantClass1 hw, rfl⟩
  · next hw => cases h; exact ⟨_, granted_grantClass1 hw, rfl⟩
  · split at h
    · next hc =>
      cases h
      obtain ⟨e, he⟩ := Option.isSome_iff_exists.mp hc
      exact ⟨_, granted_grantEntry he, rfl⟩
    · split at h
      · cases h
      · next hq =>
        cases h
        cases hqueue : s.snu.queue with
        | nil => simp [hqueue] at hq
        | cons n ns => exact ⟨_, granted_grantNotice hqueue, rfl⟩

/-! ## How many steps can be due -/

/-- The outbound places that grants can still take: the free ones, and the one that the sender frees at an idle channel
(R153, R158). -/
def Link.placesLeft (l : Link) : Nat := 24 - l.outbound.length + bit l.transmission.isNone

/-- The applications and drain's ends that can still fall due: one, as a profile is staged or under processing, or the
part drains (R134, R137, R169). -/
def State.ownStepsLeft (s : State) : Nat :=
  match s.stc.device with
  | .ready => bit s.prf.staged.isSome
  | .unconfigured => bit s.prf.processing.isSome
  | .resting => 1
  | _ => 0

/-- A bound on the due steps that are left. -/
def State.dueLeft (s : State) : Nat := s.ownStepsLeft + s.link.placesLeft

theorem bit_le_one (b : Bool) : bit b ≤ 1 := by cases b <;> decide

theorem State.dueLeft_le (s : State) : s.dueLeft ≤ 26 := by
  have hown : s.ownStepsLeft ≤ 1 := by
    unfold State.ownStepsLeft
    split
    · exact bit_le_one _
    · exact bit_le_one _
    · exact le_rfl
    · exact Nat.zero_le _
  have htransmission := bit_le_one s.link.transmission.isNone
  unfold State.dueLeft Link.placesLeft
  omega

theorem State.ownStepsLeft_congr {s t : State} (hprf : t.prf = s.prf) (hstc : t.stc = s.stc) :
    t.ownStepsLeft = s.ownStepsLeft := by
  simp only [State.ownStepsLeft, hprf, hstc]

/-- A choice takes the oldest message of the outbound queue or none (R153). -/
theorem Link.choose_outbound (l : Link) : l.outbound.length ≤ l.choose.outbound.length + 1 := by
  unfold Link.choose
  split
  · exact Nat.le_succ _
  · split
    · exact Nat.le_succ _
    · split
      · exact Nat.le_succ _
      · split
        · split <;> exact Nat.le_succ _
        · split
          · exact Nat.le_succ _
          · next m ms hout =>
            split
            · exact (congrArg List.length hout).le
            · exact Nat.le_succ _

/-- A place that the sender frees is paid for by the transmission that it begins. -/
theorem Link.placesLeft_choose_le {l : Link} (h : l.transmission = none) : l.choose.placesLeft ≤ l.placesLeft := by
  rcases l.choose_cases with heq | hsome
  · rw [heq]
  · have hout := l.choose_outbound
    have hbusy : l.choose.transmission.isNone = false := by simpa using hsome
    simp only [Link.placesLeft, hbusy, h, Option.isNone_none, bit, if_true, Bool.false_eq_true, if_false]
    omega

theorem dueLeft_kick_le (s : State) : (kick s).dueLeft ≤ s.dueLeft := by
  have hplaces : (kick s).link.placesLeft ≤ s.link.placesLeft := by
    unfold kick
    split
    · next h =>
      simp only [Bool.and_eq_true, Option.isNone_iff_eq_none] at h
      obtain ⟨-, hidle⟩ := h
      exact Link.placesLeft_choose_le hidle
    · exact le_rfl
  have hown := State.ownStepsLeft_congr (kick_prf s) (kick_stc s)
  unfold State.dueLeft
  omega

/-- A grant takes one of the places left. -/
theorem State.Granted.dueLeft_lt {s t : State} (h : s.Granted t) (hroom : s.link.outbound.length < 24) :
    t.dueLeft < s.dueLeft := by
  obtain ⟨m, hout⟩ := h.outbound
  have hown := State.ownStepsLeft_congr h.prf h.stc
  simp only [State.dueLeft, Link.placesLeft, hown, hout, h.transmission, List.length_append, List.length_singleton]
  omega

/-- After an application no profile is staged or under processing, and the device is READY (R138). -/
theorem dueLeft_application_lt {s : State} {p : Profile} (h : s.toApply = some p) :
    (application p s).dueLeft < s.dueLeft := by
  have hafter := (decided_tell allLanes (applied p s)).1
  rw [← application_eq h] at hafter
  have hown : (application p s).ownStepsLeft = 0 := by
    rw [hafter]
    rfl
  have hlink : (application p s).link = s.link := by
    rw [hafter]
    rfl
  have hbefore : s.ownStepsLeft = 1 := by
    obtain ⟨-, ⟨hd, hp, -⟩ | ⟨hd, hp⟩⟩ := (s.toApply_iff p).mp h
    · simp [State.ownStepsLeft, hd, hp, bit]
    · simp [State.ownStepsLeft, hd, hp, bit]
  unfold State.dueLeft
  rw [hown, hlink, hbefore]
  omega

/-- After the end of the drain the device is RETAINED (R169). -/
theorem dueLeft_drainEnds_lt {s : State} (h : s.drained = true) : (drainEnds s).dueLeft < s.dueLeft := by
  have hown : (drainEnds s).ownStepsLeft = 0 := by
    unfold drainEnds
    rw [(decided_tell allLanes _).1]
    split <;> rfl
  have hlink : (drainEnds s).link = s.link := by
    unfold drainEnds
    rw [(decided_tell allLanes _).1]
    split <;> rfl
  have hbefore : s.ownStepsLeft = 1 := by
    simp [State.ownStepsLeft, resting_of_drained h]
  unfold State.dueLeft
  rw [hown, hlink, hbefore]
  omega

/-- Each due step leaves fewer to be taken. -/
theorem dueLeft_perform_lt {s : State} {d : Due} (h : s.due = some d) : (perform d s).dueLeft < s.dueLeft := by
  rcases due_eq_some_cases h with ⟨rfl, p, hp⟩ | ⟨rfl, hd⟩ | ⟨⟨-, -, -, hroom⟩, hg⟩
  · have hperform : perform .application s = kick (application p s) := by simp only [perform, hp]
    rw [hperform]
    exact (dueLeft_kick_le _).trans_lt (dueLeft_application_lt hp)
  · exact (dueLeft_kick_le _).trans_lt (dueLeft_drainEnds_lt hd)
  · obtain ⟨t, ht, hperform⟩ := perform_of_grantDue hg
    rw [hperform]
    exact (dueLeft_kick_le t).trans_lt (ht.dueLeft_lt hroom)

/-- With fuel for the due steps that are left, nothing is due in the end. -/
theorem settled_settleFor : ∀ (n : Nat) (s : State), s.dueLeft ≤ n → (settleFor n s).settled
  | 0, s, h => by
    refine ⟨kick_kick s, ?_⟩
    cases hd : (kick s).due with
    | none => exact hd
    | some d => exact absurd ((dueLeft_perform_lt hd).trans_le ((dueLeft_kick_le s).trans h)) (Nat.not_lt_zero _)
  | n + 1, s, h => by
    unfold settleFor
    split
    · next hd => exact ⟨kick_kick s, hd⟩
    · next d hd =>
      exact settled_settleFor n _ (Nat.le_of_lt_succ ((dueLeft_perform_lt hd).trans_le ((dueLeft_kick_le s).trans h)))

theorem settled_settle (s : State) : (settle s).settled := settled_settleFor 32 s (s.dueLeft_le.trans (by decide))

/-- Settles O2: at most 26 steps can be due, and each leaves fewer. -/
theorem idleStepTakesTheDueStepsAndLeavesNothingDue : Obligations.IdleStepTakesTheDueStepsAndLeavesNothingDue :=
  fun s => ⟨fun h => by rw [step, h], settled_settle s, settle_of_settled,
    fun hr => settle_of_settled (settled_of_not_running hr)⟩

/-! ## The commands and the due steps -/

theorem settle_settle (s : State) : settle (settle s) = settle s := settle_of_settled (settled_settle s)

theorem event_settle (f : State → State) (s : State) : event f (settle s) = event f s := by
  rw [event, settle_settle, event]

theorem phaseCompletion_settle (a : LaneId) (ph : Phase) (f : PageName → ArrayLine → Entry → Location → State → State)
    (s : State) : phaseCompletion a ph f (settle s) = phaseCompletion a ph f s := by
  unfold phaseCompletion
  rw [settle_settle]

/-- Every command but those of the due steps acts on the settled state. -/
theorem exec_settle {c : Instr} (h : isDueStep c = false) (s : State) : exec c (settle s) = exec c s := by
  cases c with
  | profileApplication | drainComplete | intReplyGrant | entryReplyGrant | closedReplyGrant | profileAppliedGrant
  | stcReplyGrant | noticeGrant => cases h
  | readPhaseCompletion | writePhaseCompletion | writeBackPhaseCompletion => exact phaseCompletion_settle ..
  | resetNFall => simp only [exec, execResetNFall, event_settle]
  | resetNRise => simp only [exec, execResetNRise, event_settle]
  | powerUp => simp only [exec, execPowerUp, event_settle]
  | supplyOutOfRange => simp only [exec, execSupplyOutOfRange, event_settle]
  | _ => exact event_settle _ s

theorem exec_command (d : Due) (s : State) : exec d.command s = internal d s := by
  cases d <;> rfl

theorem isDueStep_iff (c : Instr) : isDueStep c = true ↔ ∃ d : Due, c = d.command := by
  constructor
  · intro h
    cases c with
    | profileApplication => exact ⟨.application, rfl⟩
    | drainComplete => exact ⟨.drain, rfl⟩
    | intReplyGrant => exact ⟨.intReply, rfl⟩
    | entryReplyGrant => exact ⟨.entryReply, rfl⟩
    | closedReplyGrant => exact ⟨.closedReply, rfl⟩
    | profileAppliedGrant => exact ⟨.profileApplied, rfl⟩
    | stcReplyGrant => exact ⟨.stcReply, rfl⟩
    | noticeGrant => exact ⟨.notice, rfl⟩
    | _ => cases h
  · rintro ⟨d, rfl⟩
    cases d <;> rfl

/-- Settles O3. -/
theorem everyOtherCommandFindsTheDueStepsTaken : Obligations.EveryOtherCommandFindsTheDueStepsTaken :=
  ⟨fun _ s h => (exec_settle h s).symm, isDueStep_iff, fun d s h => by rw [exec_command, internal, if_neg h]⟩

/-! ## The six grants (R30 to R33, R104, R105, R108, R159, R176) -/

section
variable {s : State} (h : s.granting)
include h

/-- A grant that is due is performed by its command. -/
theorem exec_grant {d : Due} {t : State} (hd : s.grantDue = some d) (ht : perform d s = kick t) :
    exec d.command s = .next (kick t) := by
  rw [exec_command, internal, if_pos ((due_of_granting h).trans hd), ht]

theorem exec_intReplyGrant {m : Message} {ws : List Waiting} (hw : s.waiting = .int m :: ws) :
    exec .intReplyGrant s = .next (kick (depart (enqueue m { s with waiting := ws }))) :=
  exec_grant h (d := .intReply) (by simp only [State.grantDue, hw]) (by rw [perform, grantClass1, hw]; rfl)

theorem exec_closedReplyGrant {k : SlotId} {n : Nat} {ws : List Waiting} (hw : s.waiting = .closed k n :: ws) :
    exec .closedReplyGrant s =
      .next (kick ((enqueue (.closed k n) { s with waiting := ws }).setSlot k Slot.unused)) :=
  exec_grant h (d := .closedReply) (by simp only [State.grantDue, hw]) (by rw [perform, grantClass1, hw]; rfl)

theorem exec_profileAppliedGrant {label : BitVec 16} {ws : List Waiting} (hw : s.waiting = .profileApplied label :: ws) :
    exec .profileAppliedGrant s = .next (kick (enqueue (.profileApplied label) { s with waiting := ws })) :=
  exec_grant h (d := .profileApplied) (by simp only [State.grantDue, hw]) (by rw [perform, grantClass1, hw]; rfl)

theorem exec_stcReplyGrant {r : StcReply} {ws : List Waiting} (hw : s.waiting = .stc r :: ws) :
    exec .stcReplyGrant s = .next (kick (enqueue r.message { s with waiting := ws })) :=
  exec_grant h (d := .stcReply) (by simp only [State.grantDue, hw]) (by rw [perform, grantClass1, hw]; rfl)

theorem exec_entryReplyGrant {e : Entry} (hw : s.waiting = []) (hc : s.candidate = some e) :
    exec .entryReplyGrant s = .next (kick (freeEntry e.key (enqueue (entryReply s.wordOrder e) s))) :=
  exec_grant h (d := .entryReply) (by simp only [State.grantDue, hw, hc, Option.isSome_some, if_true])
    (by rw [perform, grantEntry_of_candidate hc])

/-- NOTICES_LOST takes the place that the notice leaves, when notices were lost (R176). -/
theorem exec_noticeGrant {n : Notice} {ns : List Notice} (hw : s.waiting = []) (hc : s.candidate = none)
    (hq : s.snu.queue = n :: ns) : exec .noticeGrant s = .next (kick (enqueue (.notice n) { s with
      snu := if s.snu.lost = 0 then { queue := ns, lost := 0 }
        else { queue := ns ++ [.noticesLost s.snu.lost], lost := 0 } })) := by
  have hsnu : (if 0 < s.snu.lost then { queue := ns ++ [.noticesLost s.snu.lost], lost := 0 }
      else { s.snu with queue := ns } : Notices) = if s.snu.lost = 0 then { queue := ns, lost := 0 }
        else { queue := ns ++ [.noticesLost s.snu.lost], lost := 0 } := by
    by_cases hlost : s.snu.lost = 0
    · simp [hlost]
    · rw [if_pos (Nat.pos_of_ne_zero hlost), if_neg hlost]
  exact exec_grant h (d := .notice) (by simp [State.grantDue, hw, hc, hq]) (by rw [perform, grantNotice, hq, ← hsnu])

end

/-- The candidate's order (R31, R32): the oldest entry of the slot is the first of the table charged to it. -/
theorem State.releasable_iff (s : State) (k : EntryKey) : s.releasable k = true ↔
    (s.slot k.slot).order = .free ∨
      ((s.table.filter (fun x => x.key.slot == k.slot)).map (·.key)).head? = some k := by
  unfold State.releasable
  rw [List.head?_map, List.head?_filter]
  cases (s.slot k.slot).order with
  | free => simp
  | ordered => simp [Option.any_eq_true]

theorem candidate_of_first {s : State} {before after : List EntryKey} {k : EntryKey}
    (hreplies : s.replies = before ++ k :: after) (hk : s.releasable k = true)
    (hbefore : ∀ j ∈ before, ¬ s.releasable j = true) : s.candidate = s.entry k := by
  have hfind : s.replies.find? (fun j => s.releasable j) = some k :=
    List.find?_eq_some_iff_append.mpr ⟨hk, before, after, hreplies, fun j hj => by simpa using hbefore j hj⟩
  rw [State.candidate, hfind, Option.bind_some]

section
variable {k : SlotId} {s : State}

theorem countFell_of_left (h : (s.slot k).state = .opened ∨ s.entryCount k ≠ 0) : countFell k s = s := by
  rcases countFell_cases k s with ⟨hc, hs, -⟩ | ⟨hc, hs, -⟩ | ⟨-, heq⟩
  · simp [hc, hs] at h
  · simp [hc, hs] at h
  · exact heq

theorem countFell_of_closing (h : (s.slot k).state = .closing) (hc : s.entryCount k = 0) :
    countFell k s = produce (.closed k (s.slot k).discarded) s := by
  rcases countFell_cases k s with ⟨-, hs, -⟩ | ⟨-, -, heq⟩ | ⟨hs, -⟩
  · simp [h] at hs
  · exact heq
  · simp [h, hc] at hs

theorem countFell_of_detached (h : (s.slot k).state = .detached) (hc : s.entryCount k = 0) :
    countFell k s = s.setSlot k Slot.unused := by
  rcases countFell_cases k s with ⟨-, -, heq⟩ | ⟨-, hs, -⟩ | ⟨hs, -⟩
  · exact heq
  · simp [h] at hs
  · simp [h, hc] at hs

end

/-- Settles O55: the six grants one by one, the candidate's with what the fall of its slot's count does. -/
theorem arbiterGrantsByClass : Obligations.ArbiterGrantsByClass := by
  intro s h out
  refine ⟨fun m ws hw => exec_intReplyGrant h hw, fun k n ws hw => exec_closedReplyGrant h hw,
    fun label ws hw => exec_profileAppliedGrant h hw, fun r ws hw => ?_, ?_,
    fun n ns hw hc hq => exec_noticeGrant h hw hc hq⟩
  · rw [exec_stcReplyGrant h hw]
    cases r <;> rfl
  · intro before after e hw hreplies he first releasable hrel hbefore t slot
    have hcandidate : s.candidate = some e :=
      (candidate_of_first hreplies ((s.releasable_iff e.key).mpr hrel)
        fun j hj hr => hbefore j hj ((s.releasable_iff j).mp hr)).trans he
    have hfree : freeEntry e.key (enqueue (entryReply s.wordOrder e) s) = countFell e.key.slot t := by
      have hne (k : EntryKey) : (k != e.key) = decide (k ≠ e.key) := by simp [bne, beq_eq_decide]
      simp only [freeEntry, t, hne]
      rfl
    have hexec : exec .entryReplyGrant s = .next (kick (countFell e.key.slot t)) := by
      rw [exec_entryReplyGrant h hw hcandidate, hfree]
    rw [hexec]
    refine ⟨fun hleft => ?_, fun hclosing hnone => ?_, fun hdetached hnone => ?_⟩
    · rw [countFell_of_left hleft]
    · rw [countFell_of_closing (s := t) hclosing hnone, produce, show t.waiting = [] from hw]
      rfl
    · rw [countFell_of_detached (s := t) hdetached hnone]
      rfl

end Sys2Proof.Machine
end

section
/-!
PROOFS. What the down receiver discards, and its verdict on a sequenced and on a failed frame (O10, O17, O18).
-/
namespace Sys2Proof.Machine

/-! ## Which runs of bytes are discarded (R147, R182) -/

theorem namesLink_iff (c : Byte) : namesLink c = true ↔ c ∈ [0x20#8, 0x21#8, 0x2E#8, 0x2F#8] := by
  simp [namesLink, or_assoc]

theorem goodShape_iff (frame : List Byte) : goodShape frame = true ↔
    6 ≤ frame.length ∧ (byteAt frame 0 = 0x10#8 → frame.length = 6 + (byteAt frame 3).toNat) ∧
      (byteAt frame 0 ∈ [0x20#8, 0x21#8, 0x2E#8, 0x2F#8] → frame.length = 6 ∧ byteAt frame 3 = 0#8) := by
  rw [← namesLink_iff]
  simp only [goodShape, Bool.and_eq_true, Bool.or_eq_true, bne_iff_ne, beq_iff_eq, Bool.not_eq_true',
    decide_eq_true_eq, and_assoc, imp_iff_not_or, Bool.not_eq_true, ne_eq]

/-- A frame that passed both checks fails for its class code alone, and is then no lost link frame. -/
theorem classify_eq_failed_iff (frame : List Byte) (link : Bool) : classify frame = .failed link ↔
    byteAt frame 0 ∉ [0x10#8, 0x20#8, 0x21#8, 0x2E#8, 0x2F#8] ∧ link = false := by
  by_cases hclass : byteAt frame 0 ∈ [0x10#8, 0x20#8, 0x21#8, 0x2E#8, 0x2F#8]
  · refine iff_of_false (fun hfailed => ?_) fun ⟨hnot, _⟩ => hnot hclass
    simp only [List.mem_cons, List.not_mem_nil, or_false] at hclass
    rcases hclass with hc | hc | hc | hc | hc <;> simp [classify, hc] at hfailed
  · have hfailed : classify frame = .failed false := by
      simp only [List.mem_cons, List.not_mem_nil, or_false, not_or] at hclass
      simp [classify, hclass]
    rw [hfailed, Received.failed.injEq, eq_comm]
    exact (and_iff_right hclass).symm

theorem receive_of_passed {frame : List Byte} (hc : passesCheck frame = true) (hs : goodShape frame = true) :
    receive frame = classify frame := by
  rw [receive, hc, hs]
  rfl

theorem receive_of_not_passed {frame : List Byte} (h : ¬ (passesCheck frame = true ∧ goodShape frame = true)) :
    receive frame = .failed (decide (1 ≤ frame.length) && namesLink (byteAt frame 0)) := by
  rw [receive, if_neg]
  rwa [Bool.and_eq_true]

/-- Settles O10: a run is discarded at its check, at its shape or at its class code. -/
theorem downFramesThatAreDiscarded : Obligations.DownFramesThatAreDiscarded := by
  intro frame
  by_cases h : passesCheck frame = true ∧ goodShape frame = true
  · obtain ⟨hcheck, hshape⟩ := h
    obtain ⟨hlength, hsequenced, hlinks⟩ := (goodShape_iff frame).mp hshape
    simp only [receive_of_passed hcheck hshape, classify_eq_failed_iff]
    refine ⟨⟨fun ⟨_, hclass, _⟩ => Or.inr (Or.inr (Or.inr (Or.inr hclass))), fun hd => ⟨false, ?_, rfl⟩⟩, ?_⟩
    · rcases hd with hd | hd | ⟨hclass, hd⟩ | ⟨hclass, hd⟩ | hclass
      · simp [hcheck] at hd
      · exact absurd hlength (not_le.mpr hd)
      · exact absurd (hsequenced hclass) hd
      · obtain ⟨hsix, hzero⟩ := hlinks hclass
        rcases hd with hd | hd
        · exact absurd hsix hd
        · exact absurd hzero hd
      · exact hclass
    · rintro link ⟨hclass, rfl⟩
      exact ⟨nofun, fun ⟨_, hlink⟩ => absurd (List.mem_cons_of_mem _ hlink) hclass⟩
  · rw [receive_of_not_passed h]
    refine ⟨⟨fun _ => ?_, fun _ => ⟨_, rfl⟩⟩, fun link hlink => ?_⟩
    · by_cases hcheck : passesCheck frame = true
      · have hshape : ¬ goodShape frame = true := fun hs => h ⟨hcheck, hs⟩
        rw [goodShape_iff, not_and_or, not_and_or, Classical.not_imp, Classical.not_imp, not_le, not_and_or] at hshape
        rcases hshape with hshort | hsequenced | hlink
        · exact Or.inr (Or.inl hshort)
        · exact Or.inr (Or.inr (Or.inl hsequenced))
        · exact Or.inr (Or.inr (Or.inr (Or.inl hlink)))
      · exact Or.inl (by simpa using hcheck)
    · obtain rfl := Received.failed.inj hlink
      rw [Bool.and_eq_true, namesLink_iff, decide_eq_true_eq, Nat.one_le_iff_ne_zero, ne_eq, List.length_eq_zero_iff]

/-! ## The verdict on a frame (R147 to R149) -/

theorem Link.discard_of_episode {l : Link} (h : l.episode = true) (reason : RejectReason) : l.discard reason = l :=
  if_pos h

theorem Link.discard_of_no_episode {l : Link} (h : l.episode = false) (reason : RejectReason) :
    l.discard reason = { l with
      episode := true, pendingReject := some reason
      counters := { l.counters with reject := bump l.counters.reject } } :=
  if_neg (by simp [h])

/-- The distance of a sequenced frame from the expected down sequence (R148). -/
def Link.distance (l : Link) (sequence : Byte) : Nat := (sequence.toNat + 256 - l.expected.toNat) % 256

/-- A sequenced frame is judged by its distance and, at distance 0, by the room in the intake. -/
theorem Link.judge_eq (l : Link) (sequence : Byte) (message : List Byte) : l.judge sequence message =
    if l.distance sequence = 0 then
      if l.intake.length < 8 then
        { l with intake := l.intake ++ [message], expected := l.expected + 1#8, episode := false }
      else l.discard .full
    else if l.distance sequence < 128 then l.discard .order
    else { l with counters := { l.counters with duplicate := bump l.counters.duplicate } } := by
  have hd : (sequence - l.expected).toNat = l.distance sequence := by
    unfold Link.distance
    bv_omega
  rw [← hd]
  rfl

/-- An event of LNK's alone in a settled state of a running part: the link changes and the sender chooses. -/
theorem event_onLink {s : State} (hs : s.settled) (hr : s.running = true) (f : Link → Link) :
    event (whileRunning fun s => s.onLink f) s = .next (kick { s with link := f s.link }) :=
  event_whileRunning hs hr _

theorem exec_downSequencedFrame {s : State} (hs : s.settled) (hr : s.running = true) {message : List Byte}
    (hm : message.length < 256) (acknowledgement sequence : Byte) :
    exec (.downSequencedFrame acknowledgement sequence message) s =
      .next (kick { s with link := (s.link.acknowledge acknowledgement).judge sequence message }) := by
  have hexec : exec (.downSequencedFrame acknowledgement sequence message) s =
      event (whileRunning fun s => s.onLink fun l => (l.acknowledge acknowledgement).judge sequence message) s := by
    simp only [exec, execDownSequencedFrame, if_pos hm]
  rw [hexec, event_onLink hs hr]

/-- Settles O17: the four rows of R148 and the episode of R149. -/
theorem sequencedFrameIsJudgedByItsDistance : Obligations.SequencedFrameIsJudgedByItsDistance := by
  intro acknowledgement sequence message s hs hr hm c l d
  have hc : c = .next (kick { s with link := l.judge sequence message }) :=
    exec_downSequencedFrame hs hr hm acknowledgement sequence
  have hdistance : l.distance sequence = d := rfl
  rw [hc, l.judge_eq, hdistance]
  refine ⟨fun h0 hroom => ?_, fun hepisode hd => ?_, fun hepisode h0 hfull => ?_, fun hepisode hlow hhigh => ?_,
    fun hbehind => ?_⟩
  · rw [if_pos h0, if_pos hroom]
  · rw [l.discard_of_episode hepisode, l.discard_of_episode hepisode]
    rcases hd with ⟨h0, hfull⟩ | ⟨hlow, hhigh⟩
    · rw [if_pos h0, if_neg (not_lt.mpr hfull)]
    · rw [if_neg (Nat.ne_of_gt hlow), if_pos (Nat.lt_succ_of_le hhigh)]
  · rw [if_pos h0, if_neg (not_lt.mpr hfull), l.discard_of_no_episode hepisode]
  · rw [if_neg (Nat.ne_of_gt hlow), if_pos (Nat.lt_succ_of_le hhigh), l.discard_of_no_episode hepisode]
  · rw [if_neg (by omega), if_neg (not_lt.mpr hbehind)]

theorem exec_downFrameCheckFailed {s : State} (hs : s.settled) (hr : s.running = true) {frame : List Byte} {link : Bool}
    (h : receive frame = .failed link) :
    exec (.downFrameCheckFailed frame) s = .next (kick { s with link := s.link.checkFailed link }) := by
  have hexec : exec (.downFrameCheckFailed frame) s = event (whileRunning fun s => s.onLink (·.checkFailed link)) s := by
    simp only [exec, execDownFrameCheckFailed, h]
  rw [hexec, event_onLink hs hr]

/-- Settles O18: the CRC count, then silence for a lost link frame, else the discard of R149. -/
theorem failedFrameIsCountedAndReportedOnce : Obligations.FailedFrameIsCountedAndReportedOnce := by
  intro frame link s hs hr hfailed c l
  let counted : Link := { l with counters := { l.counters with crc := bump l.counters.crc } }
  have hc : c = .next (kick { s with link := l.checkFailed link }) := exec_downFrameCheckFailed hs hr hfailed
  have hsilent (hl : link = true) : l.checkFailed link = counted := if_pos hl
  have hlost (hl : link = false) : l.checkFailed link = counted.discard .crc := if_neg (by simp [hl])
  rw [hc]
  refine ⟨fun h => ?_, fun hl hepisode => ?_⟩
  · cases hl : link with
    | true => rw [← hl, hsilent hl]
    | false =>
      have hepisode : counted.episode = true := h.resolve_left (by simp [hl])
      rw [← hl, hlost hl, Link.discard_of_episode hepisode]
  · rw [hlost hl, Link.discard_of_no_episode (l := counted) hepisode]

end Sys2Proof.Machine
end

section
/-!
PROOFS. Acknowledgements and RESEND (O16, O20), the sender's choice, ACK, the end of a transmission and the replay timer
(O19, O21, O22).
-/
namespace Sys2Proof.Machine

/-! ## The replay list (R152, R154, R157) -/

theorem Link.listed_iff (l : Link) (n : Byte) : l.listed n = true ↔ ∃ f ∈ l.replay, f.sequence = n := by
  simp [Link.listed]

theorem Link.not_listed {l : Link} {n : Byte} (h : ∀ f ∈ l.replay, f.sequence ≠ n) : ¬ l.listed n = true := by
  rw [l.listed_iff]
  exact fun ⟨f, hf, hn⟩ => h f hf hn

/-- The first frame with a sequence number divides the list. -/
theorem framesFrom_of_first {n : Byte} {f : Sent} (newer : List Sent) (hf : f.sequence = n) : ∀ {older : List Sent},
    (∀ o ∈ older, o.sequence ≠ n) → framesFrom n (older ++ f :: newer) = f :: newer
  | [], _ => if_pos hf
  | o :: older, h => by
    obtain ⟨ho, hrest⟩ := List.forall_mem_cons.mp h
    rw [List.cons_append, framesFrom, if_neg ho, framesFrom_of_first newer hf hrest]

theorem framesAfter_eq_tail (n : Byte) : ∀ fs : List Sent, framesAfter n fs = (framesFrom n fs).tail
  | [] => rfl
  | f :: fs => by
    unfold framesAfter framesFrom
    split
    · rfl
    · exact framesAfter_eq_tail n fs

/-! ## Acknowledgement and RESEND (R152, R157) -/

section
variable {l : Link} {n : Byte} {older newer : List Sent} {f : Sent}

section
variable (hreplay : l.replay = older ++ f :: newer) (hf : f.sequence = n) (holder : ∀ o ∈ older, o.sequence ≠ n)
include hreplay hf

theorem Link.listed_of_split : l.listed n = true :=
  (l.listed_iff n).mpr ⟨f, by simp [hreplay], hf⟩

include holder

theorem Link.acknowledge_of_split : l.acknowledge n = l.progress newer := by
  rw [Link.acknowledge, if_pos (Link.listed_of_split hreplay hf), framesAfter_eq_tail, hreplay,
    framesFrom_of_first newer hf holder, List.tail_cons]

theorem Link.resendFrom_of_split : l.resendFrom n = { l.progress (f :: newer) with pointer := some n } := by
  rw [Link.resendFrom, if_pos (Link.listed_of_split hreplay hf), hreplay, framesFrom_of_first newer hf holder]

end

section
variable (h : ∀ f ∈ l.replay, f.sequence ≠ n)
include h

theorem Link.acknowledge_of_point (hn : n = l.acknowledgedPoint) : l.acknowledge n = l := by
  rw [Link.acknowledge, if_neg (Link.not_listed h), if_pos hn]

theorem Link.acknowledge_of_other (hn : n ≠ l.acknowledgedPoint) :
    l.acknowledge n = { l with counters := { l.counters with ackRange := bump l.counters.ackRange } } := by
  rw [Link.acknowledge, if_neg (Link.not_listed h), if_neg hn]

theorem Link.resendFrom_of_nextUp (hn : n = l.nextUp) :
    l.resendFrom n = { l.progress [] with pointer := none } := by
  rw [Link.resendFrom, if_neg (Link.not_listed h), if_pos hn]

theorem Link.resendFrom_of_other (hn : n ≠ l.nextUp) :
    l.resendFrom n = { l with counters := { l.counters with resendIgnored := bump l.counters.resendIgnored } } := by
  rw [Link.resendFrom, if_neg (Link.not_listed h), if_neg hn]

end
end

/-- Progress, with the pointer by membership in what is left (R152). -/
theorem Link.progress_eq (l : Link) (rest : List Sent) : l.progress rest = { l with
    replay := rest
    stall := 0
    mode := .running
    timer := !rest.isEmpty
    pointer := l.pointer.bind fun n =>
      if n ∈ rest.map (·.sequence) then some n else (rest.map (·.sequence)).head? } := by
  unfold Link.progress
  cases l.pointer with
  | none => rfl
  | some n => simp [List.head?_map]

theorem bump_eq {n : Nat} (h : n ≤ 65535) : bump n = min (n + 1) 65535 := by
  unfold bump
  split <;> omega

/-- Settles O16: the three rows of R152. -/
theorem acknowledgementRemovesFramesAndMakesProgress : Obligations.AcknowledgementRemovesFramesAndMakesProgress := by
  refine ⟨fun l k => ⟨fun older newer f hreplay hf holder => ?_, fun hnone => ?_⟩, fun _ => bump_eq⟩
  · rw [Link.acknowledge_of_split hreplay hf holder, l.progress_eq]
  · exact ⟨Link.acknowledge_of_point hnone, Link.acknowledge_of_other hnone⟩

theorem exec_resend {s : State} (hs : s.settled) (hr : s.running = true) (k n : Byte) :
    exec (.resend k n) s = .next (kick { s with link := (s.link.acknowledge k).resendFrom n }) :=
  event_onLink hs hr fun l => (l.acknowledge k).resendFrom n

/-- Settles O20: the three rows of R157. -/
theorem resendIsTakenOrIgnored : Obligations.ResendIsTakenOrIgnored := by
  intro k n s hs hr c l
  have hc : c = .next (kick { s with link := l.resendFrom n }) := exec_resend hs hr k n
  rw [hc]
  refine ⟨fun older newer f hreplay hf holder => ?_, fun hnone hn => ?_, fun hnone hn => ?_⟩
  · rw [Link.resendFrom_of_split hreplay hf holder]
    rfl
  · rw [Link.resendFrom_of_nextUp hnone hn]
    rfl
  · rw [Link.resendFrom_of_other hnone hn]

/-! ## The sender's choice (R146, R153 to R156, R161) -/

theorem kick_of_busy {s : State} (h : s.link.transmission ≠ none) : kick s = s := by
  rw [kick, if_neg]
  simp [h]

theorem kick_of_idle {s : State} (hr : s.running = true) (h : s.link.transmission = none) :
    kick s = { s with link := s.link.choose } := by
  rw [kick, if_pos]
  simp [hr, h]

section
variable {l : Link}

theorem Link.choose_reject {r : RejectReason} (hr : l.pendingReject = some r) :
    l.choose = { l.begin (.reject r) with pendingReject := none } := by
  simp only [Link.choose, hr]

theorem Link.choose_credit (hr : l.pendingReject = none) (hc : l.pendingCredit = true) :
    l.choose = { l.begin .credit with pendingCredit := false } := by
  simp only [Link.choose, hr, hc, if_true]

section
variable (hr : l.pendingReject = none) (hc : l.pendingCredit = false)
include hr hc

theorem Link.choose_stalled (hm : l.mode = .stalled) : l.choose = l := by
  simp [Link.choose, hr, hc, hm]

variable (hm : l.mode = .running)
include hm

theorem Link.choose_replay {n : Byte} {older newer : List Sent} {f : Sent} (hp : l.pointer = some n)
    (hreplay : l.replay = older ++ f :: newer) (hf : f.sequence = n) (holder : ∀ o ∈ older, o.sequence ≠ n) :
    l.choose = { l.begin (.message f.sequence f.message) with pointer := newer.head?.map (·.sequence) } := by
  have hfrom : framesFrom n l.replay = f :: newer := hreplay ▸ framesFrom_of_first newer hf holder
  simp [Link.choose, hr, hc, hm, hp, hfrom]

theorem Link.choose_new {m : Message} {ms : List Message} (hp : l.pointer = none) (ho : l.outbound = m :: ms)
    (hroom : l.replay.length < 16) : l.choose = { l.begin (.message l.nextUp m) with
      outbound := ms
      replay := l.replay ++ [{ sequence := l.nextUp, message := m }]
      nextUp := l.nextUp + 1#8
      timer := l.timer || l.replay.isEmpty } := by
  simp [Link.choose, hr, hc, hm, hp, ho, hroom]

theorem Link.choose_nothing (hp : l.pointer = none) (h : l.outbound = [] ∨ 16 ≤ l.replay.length) : l.choose = l := by
  simp only [Link.choose, hr, hc, hm, hp]
  cases ho : l.outbound with
  | nil => rfl
  | cons m ms =>
    have hfull : 16 ≤ l.replay.length := h.resolve_left (by simp [ho])
    simp [not_lt.mpr hfull]

end
end

/-- Settles O21: the order of R153. -/
theorem senderChoosesByPriority : Obligations.SenderChoosesByPriority := by
  intro s l
  refine ⟨fun h => h.elim kick_of_not_running kick_of_busy, fun hrunning hidle => ?_⟩
  rw [kick_of_idle hrunning hidle]
  refine ⟨fun r hr => ?_, fun hr hc => ?_, fun hr hc hm => ?_, fun hr hc hm =>
    ⟨fun n older newer f hp hreplay hf holder => ?_, fun m ms hp ho hroom => ?_, fun hp h => ?_⟩⟩
  · rw [Link.choose_reject hr]
    rfl
  · rw [Link.choose_credit hr hc]
    rfl
  · rw [Link.choose_stalled hr hc hm]
  · rw [Link.choose_replay hr hc hm hp hreplay hf holder]
    rfl
  · rw [Link.choose_new hr hc hm hp ho hroom]
    rfl
  · rw [Link.choose_nothing hr hc hm hp h]

/-! ## ACK, the end of a transmission, the replay timer (R150, R153, R156) -/

/-- An acknowledgement is none of the channel's and the receiver's business (R152). -/
theorem Link.acknowledge_frame (l : Link) (k : Byte) :
    (l.acknowledge k).transmission = l.transmission ∧ (l.acknowledge k).pendingReject = l.pendingReject ∧
      (l.acknowledge k).expected = l.expected ∧ (l.acknowledge k).release = l.release := by
  rcases l.acknowledge_cases k with ⟨-, h⟩ | ⟨-, -, h⟩ | ⟨-, -, h⟩ <;> rw [h] <;> exact ⟨rfl, rfl, rfl, rfl⟩

/-- Settles O19: the CREDIT that ACK asks for is next at an idle channel with no REJECT pending. -/
theorem ackIsAnsweredWithCredit : Obligations.AckIsAnsweredWithCredit := by
  intro k s hs hr
  let l : Link := { s.link.acknowledge k with pendingCredit := true }
  have hexec : exec (.ack k) s = .next (kick { s with link := l }) :=
    event_onLink hs hr fun l => { l.acknowledge k with pendingCredit := true }
  refine ⟨hexec, fun hidle hreject => ⟨_, hexec, ?_⟩⟩
  obtain ⟨htransmission, hpending, hexpected, hrelease⟩ := s.link.acknowledge_frame k
  have hkick : kick { s with link := l } = { s with link := l.choose } := kick_of_idle hr (htransmission.trans hidle)
  have hcredit : l.choose = { l.begin .credit with pendingCredit := false } :=
    Link.choose_credit (hpending.trans hreject) rfl
  rw [hkick, hcredit, ← hexpected, ← hrelease]
  rfl

theorem Link.expire_of_lt {l : Link} (h : l.stall < 3) : l.expire = { l with
    stall := l.stall + 1
    counters := { l.counters with replayExpiry := bump l.counters.replayExpiry }
    pointer := l.replay.head?.map (·.sequence) } :=
  if_pos (Nat.succ_lt_succ h)

theorem Link.expire_of_three {l : Link} (h : l.stall = 3) : l.expire = { l with
    stall := 4, mode := .stalled, pointer := none, timer := false
    counters := { l.counters with replayExpiry := bump l.counters.replayExpiry } } := by
  simp [Link.expire, h]

theorem exec_replayTimerExpiry {s : State} (hs : s.settled) (hr : s.running = true) (ht : s.link.timer = true) :
    exec .replayTimerExpiry s = .next (kick { s with link := s.link.expire }) := by
  have hexec : exec .replayTimerExpiry s =
      .next (kick (if s.link.timer then s.onLink Link.expire else s)) := event_whileRunning hs hr _
  rw [hexec, if_pos ht]
  rfl

/-- Settles O22. -/
theorem endOfATransmissionAndExpiryOfTheReplayTimer : Obligations.EndOfATransmissionAndExpiryOfTheReplayTimer := by
  intro s hs hr l
  refine ⟨event_onLink hs hr fun l => { l with transmission := none }, fun ht => ?_⟩
  rw [exec_replayTimerExpiry hs hr ht]
  exact ⟨fun hstall => by rw [Link.expire_of_lt hstall], fun hstall => by rw [Link.expire_of_three hstall]⟩

end Sys2Proof.Machine
end

section
/-!
PROOFS. The bytes of the reply and notice messages, of a profile's record and of the up frames (O14).
-/
namespace Sys2Proof.Machine

/-! ## Lengths (section 12.4) -/

theorem length_flatMap_of_forall {α : Type} {f : α → List Byte} {n : Nat} (h : ∀ x, (f x).length = n) (xs : List α) :
    (xs.flatMap f).length = n * xs.length := by
  simp [List.length_flatMap, h, Nat.mul_comm]

theorem profileBytes_length (p : Option Profile) : (profileBytes p).length = 11 := by
  cases p <;> rfl

theorem Notice.bytes_length (n : Notice) : n.bytes.length = 5 := by
  cases n <;> rfl

theorem pageBytes_length (p : Option PageName) : (pageBytes p).length = 2 := by
  rcases p with _ | _ | _ <;> rfl

theorem LaneReport.stateBytes_length (r : LaneReport) : r.stateBytes.length = 9 := by
  simp only [LaneReport.stateBytes, List.length_append, pageBytes_length, List.length_cons, List.length_nil]

theorem LaneReport.counterBytes_length (r : LaneReport) : r.counterBytes.length = 6 := rfl

theorem SlotReport.bytes_length (r : SlotReport) : r.bytes.length = 4 := rfl

theorem Suspect.bytes_length (r : Suspect) : r.bytes.length = 5 := rfl

theorem Remap.bytes_length (r : Remap) : r.bytes.length = 4 := rfl

theorem wordBytes_length (w : Word) : (wordBytes w).length = 4 := rfl

theorem twoBytes_length (n : Nat) : (twoBytes n).length = 2 := rfl

theorem Snapshot.bytes_length (r : Snapshot) : r.bytes.length = 161 := by
  have hlanes : r.lanes.toList.length = 8 := rfl
  have hslots : r.slots.toList.length = 4 := rfl
  simp only [Snapshot.bytes, List.length_append, length_flatMap_of_forall LaneReport.stateBytes_length,
    length_flatMap_of_forall SlotReport.bytes_length, length_flatMap_of_forall LaneReport.counterBytes_length, hlanes,
    hslots, labelBytes, twoBytes_length, List.length_cons, List.length_nil]

/-! ## Fields of one byte (section 12.5) -/

/-- A flag as its byte. -/
theorem oneByte_bit (b : Bool) : oneByte (bit b) = if b then 1#8 else 0#8 := by
  cases b <;> rfl

/-- Bit i of the mask's byte enables the i-th notice kind; bits 6 and 7 are reserved (R131, R183). -/
theorem NoticeMask.byte_bits (q : NoticeMask) : (List.range 8).map q.byte.getLsbD =
    [q.tempBand, q.suspectAdded, q.suspectFull, q.sparesExhausted, q.restorationOverrun, q.noticesLost, false, false] := by
  have hbits : ∀ a b c d e f : Bool,
      (List.range 8).map (NoticeMask.byte ⟨a, b, c, d, e, f⟩).getLsbD = [a, b, c, d, e, f, false, false] := by decide
  exact hbits ..

/-- Settles O14: each message by its kind, then the record, the mask, the codes and the up frames. -/
theorem messageLengthsAndUpFrames : Obligations.MessageLengthsAndUpFrames := by
  refine ⟨fun m => ?_, ?_, fun p => ?_, NoticeMask.byte_bits, ?_, fun f => ?_⟩
  · cases m with
    | data _ _ _ _ words =>
      simp only [Message.bytes, List.length_append, length_flatMap_of_forall wordBytes_length]
      rfl
    | profileState active staged => simp only [Message.bytes, List.length_append, profileBytes_length]; rfl
    | status snapshot => simp only [Message.bytes, List.length_append, Snapshot.bytes_length]; rfl
    | suspectTable records =>
      simp only [Message.bytes, List.length_append, length_flatMap_of_forall Suspect.bytes_length]
      rfl
    | remapTable _ records spares =>
      simp only [Message.bytes, List.length_append, length_flatMap_of_forall Remap.bytes_length]
      rfl
    | notice n => simp only [Message.bytes, List.length_append, Notice.bytes_length]; rfl
    | _ => rfl
  · intro byte two number flag place record
    refine ⟨fun _ _ _ _ _ => rfl, fun e result remapped => ?_, fun _ _ _ _ => rfl, fun _ _ => ⟨rfl, rfl⟩, fun _ => rfl,
      fun active staged => ?_, rfl, rfl, rfl, fun _ => rfl, fun _ => rfl, fun _ _ _ => rfl, fun _ => rfl, fun n => ?_⟩
    · simp only [Message.bytes, oneByte_bit, flag]
      rfl
    · cases active <;> cases staged <;> rfl
    · cases n <;> rfl
  · simp only [Profile.bytes, oneByte_bit]
    rfl
  · exact ⟨rfl, rfl, rfl, rfl, rfl, rfl, rfl, rfl, rfl⟩
  · obtain ⟨content, expected, release⟩ := f
    cases content with
    | credit => rfl
    | reject reason => cases reason <;> rfl
    | message n m => rfl

end Sys2Proof.Machine
end

section
/-!
PROOFS. A link reset at every block (O23).
-/
namespace Sys2Proof.Machine

/-! ## Decisions where no entry is QUEUED (R49, R50, R54 to R56) -/

theorem eligible_of_none_queued {s : State} (h : ∀ e ∈ s.table, e.state ≠ .queued) (a : LaneId) : s.eligible a = [] :=
  List.eq_nil_iff_forall_not_mem.mpr fun e he => by
    obtain ⟨hmem, hqueued, -⟩ := mem_eligible he
    exact h e hmem hqueued

theorem setLaneState_self (s : State) (a : LaneId) : s.setLaneState a (s.lane a).state = s :=
  congrArg (fun lanes => { s with lanes := lanes }) (s.set_lane_self a)

section
variable {s : State} {a : LaneId} (hs : s.eligible a = [])
include hs

/-- Without an eligible entry a decision changes the state of its lane only. -/
theorem decideLane_of_empty : decideLane s a = s.setLaneState a ((decideLane s a).lane a).state := by
  rcases decideLane_cases s a with hd | ⟨st, -, hd⟩ | ⟨p, e, passed, he, -⟩
  · rw [hd, setLaneState_self]
  · rw [hd, State.setLaneState_lane, if_pos rfl]
  · simp [hs] at he

theorem decideLane_blocks_of_empty : decideLane s a = { s with lanes := (decideLane s a).lanes } := by
  rw [decideLane_of_empty hs]
  rfl

theorem decideLane_lane_of_empty :
    (decideLane s a).lane a = { s.lane a with state := ((decideLane s a).lane a).state } := by
  conv_lhs => rw [decideLane_of_empty hs, State.setLaneState_lane, if_pos rfl]

/-- Without an eligible entry a decision depends on its lane, the profiles and the device only. -/
theorem decideLane_lane_congr {t : State} (ht : t.eligible a = []) (hlane : t.lane a = s.lane a) (hprf : t.prf = s.prf)
    (hstc : t.stc = s.stc) : (decideLane t a).lane a = (decideLane s a).lane a := by
  have hdecision : t.decision a = s.decision a := by
    have hcloses : t.closesIdle a = s.closesIdle a := by
      simp only [State.closesIdle, State.releasePolicy, hlane, hprf, hstc]
    have hpull : t.pullIn = s.pullIn := by simp only [State.pullIn, hprf, hstc]
    cases hst : (s.lane a).state with
    | held p =>
      rw [decision_of_held (hlane ▸ hst), decision_of_held hst, decideHeld_of_empty ht, decideHeld_of_empty hs, hcloses,
        hlane]
    | closed =>
      rw [decision_of_closed (hlane ▸ hst), decision_of_closed hst, decideClosed_of_empty ht, decideClosed_of_empty hs,
        hpull, hlane]
    | opening | access | closing | restoring => simp only [State.decision, hlane, hst]
  unfold decideLane act
  rw [hdecision, hlane]
  split
  · next hserve _ =>
    obtain ⟨e, he, -⟩ := decision_serve hserve
    simp [hs] at he
  · simp only [State.setLaneState_lane, hlane]
  · simp only [State.setLaneState_lane, hlane]
  · simp only [State.setLaneState_lane, hlane]
  · exact hlane

end

/-- While no entry is QUEUED the lanes told decide independently of each other. -/
theorem tell_of_none_queued : ∀ (lanes : List LaneId), lanes.Nodup → ∀ {s : State}, (∀ e ∈ s.table, e.state ≠ .queued) →
    tell lanes s = { s with lanes := (tell lanes s).lanes } ∧
      ∀ a, (tell lanes s).lane a = if a ∈ lanes then (decideLane s a).lane a else s.lane a
  | [], _, s, _ => ⟨rfl, fun a => (if_neg List.not_mem_nil).symm⟩
  | b :: lanes, hnodup, s, hnone => by
    obtain ⟨hb, hrest⟩ := List.nodup_cons.mp hnodup
    have hempty := eligible_of_none_queued hnone
    have hblocks := decideLane_blocks_of_empty (hempty b)
    have hnone' : ∀ e ∈ (decideLane s b).table, e.state ≠ .queued := by
      rw [hblocks]
      exact hnone
    obtain ⟨hframe, hlanes⟩ := tell_of_none_queued lanes hrest hnone'
    have htell : tell (b :: lanes) s = tell lanes (decideLane s b) := rfl
    rw [htell]
    refine ⟨hframe.trans (by rw [hblocks]), fun a => ?_⟩
    rw [hlanes]
    by_cases ha : a = b
    · subst ha
      rw [if_neg hb, if_pos List.mem_cons_self]
    · have hlane : (decideLane s b).lane a = s.lane a := by
        rw [decideLane_of_empty (hempty b), State.setLaneState_lane, if_neg ha]
      have hdecision : (decideLane (decideLane s b) a).lane a = (decideLane s a).lane a :=
        decideLane_lane_congr (hempty a) (eligible_of_none_queued hnone' a) hlane (by rw [hblocks]) (by rw [hblocks])
      rw [hdecision, hlane]
      simp only [List.mem_cons, ha, false_or]

/-! ## The blocks after a link reset (R39, R107, R160) -/

theorem Slot.linkReset_eq (r : Slot) (count : Nat) : r.linkReset count =
    if r.state = .opened ∨ r.state = .closing then
      (if 0 < count then { r with state := .detached, discarded := 0 } else Slot.unused)
    else r := by
  unfold Slot.linkReset
  cases hst : r.state <;> simp

/-- A slot has an entry left when it had an ACTIVE one. -/
theorem entryCount_linkResetBlocks_pos (s : State) (j : SlotId) : 0 < (linkResetBlocks s).entryCount j ↔
    s.table.any (fun e => e.key.slot == j && e.state == .active) = true := by
  rw [State.entryCount, List.length_pos_iff_exists_mem]
  simp [linkResetBlocks, orphanTable, and_assoc, and_comm (a := _ = EntryState.active)]

/-- An OPEN or CLOSING slot is DETACHED with an ACTIVE entry and FREE without one (R107). -/
theorem linkResetBlocks_slot_eq (s : State) (j : SlotId) : (linkResetBlocks s).slot j =
    if (s.slot j).state = .opened ∨ (s.slot j).state = .closing then
      (if s.table.any (fun e => e.key.slot == j && e.state == .active) then
        { s.slot j with state := .detached, discarded := 0 } else Slot.unused)
    else s.slot j := by
  simp only [linkResetBlocks_slot, Slot.linkReset_eq, entryCount_linkResetBlocks_pos]

theorem none_queued_linkResetBlocks (s : State) : ∀ e ∈ (linkResetBlocks s).table, e.state ≠ .queued := by
  intro e he
  obtain ⟨f, hf, rfl⟩ := List.mem_map.mp he
  obtain ⟨-, hactive⟩ := List.mem_filter.mp hf
  simp [beq_iff_eq.mp hactive]

/-- The lanes told of a link reset: every lane when a staged profile is discarded, else those that an entry left (R44, R48,
R141). -/
def linkResetTold (s : State) : List LaneId :=
  if s.prf.staged.isSome then allLanes else allLanes.filter (toldOf s (linkResetBlocks s))

theorem linkResetTold_nodup (s : State) : (linkResetTold s).Nodup := by
  have hall : allLanes.Nodup := by decide
  unfold linkResetTold
  split
  · exact hall
  · exact hall.filter _

theorem mem_linkResetTold_iff (s : State) (a : LaneId) : a ∈ linkResetTold s ↔
    s.prf.staged.isSome = true ∨
      (s.laneQueue a).map (·.key) ≠ ((linkResetBlocks s).laneQueue a).map (·.key) := by
  have htold : toldOf s (linkResetBlocks s) a = true ↔
      (s.laneQueue a).map (·.key) ≠ ((linkResetBlocks s).laneQueue a).map (·.key) := by
    rw [toldOf_iff, eligible_of_none_queued (none_queued_linkResetBlocks s)]
    simp
  unfold linkResetTold
  split
  · next h => exact iff_of_true (mem_allLanes a) (Or.inl h)
  · next h => rw [List.mem_filter, htold, or_iff_right h, and_iff_right (mem_allLanes a)]

theorem exec_linkReset {s : State} (hs : s.settled) (hr : s.running = true) (k : Byte) :
    exec (.linkReset k) s =
      .next (kick (tell (linkResetTold (s.onLink (·.acknowledge k))) (linkResetBlocks (s.onLink (·.acknowledge k))))) := by
  have hexec : exec (.linkReset k) s = .next (kick
      (if (s.onLink (·.acknowledge k)).prf.staged.isSome then
        tell allLanes (linkResetBlocks (s.onLink (·.acknowledge k)))
      else tellChanged (s.onLink (·.acknowledge k)) (linkResetBlocks (s.onLink (·.acknowledge k))))) :=
    event_whileRunning hs hr _
  rw [hexec, linkResetTold]
  split <;> rfl

/-- After a link reset the sender begins the CREDIT that is pending (R160, R161). -/
theorem kick_afterReset {s : State} (hr : s.running = true) {counters : LinkCounters}
    (h : s.link = Link.afterReset counters) : kick s = { s with link := { Link.afterReset counters with
      pendingCredit := false, transmission := some { content := .credit, expected := 0#8, release := 0#8 } } } := by
  rw [kick_of_idle hr (by rw [h]; rfl), h]
  rfl

/-- Settles O23: the blocks after the reset, then the lanes' decisions, none of which finds a QUEUED entry, then the
CREDIT. -/
theorem linkResetReachesEveryBlock : Obligations.LinkResetReachesEveryBlock := by
  intro k s hs hr
  let r := s.onLink (·.acknowledge k)
  let reset := linkResetBlocks r
  let decided := tell (linkResetTold r) reset
  have hnone : ∀ e ∈ reset.table, e.state ≠ .queued := none_queued_linkResetBlocks r
  have hempty := eligible_of_none_queued hnone
  obtain ⟨hblocks, hlanes⟩ : decided = { reset with lanes := decided.lanes } ∧
      ∀ a, decided.lane a = if a ∈ linkResetTold r then (decideLane reset a).lane a else s.lane a :=
    tell_of_none_queued (linkResetTold r) (linkResetTold_nodup r) hnone
  have hkick := (congrArg kick hblocks).trans
    (kick_afterReset (s := { reset with lanes := decided.lanes }) (counters := (s.link.acknowledge k).counters) hr rfl)
  refine ⟨kick decided, exec_linkReset hs hr k, ?_⟩
  rw [hkick]
  refine ⟨rfl, rfl, rfl, rfl, linkResetBlocks_slot_eq r, rfl, rfl, rfl, rfl, rfl, rfl, rfl, rfl, rfl,
    fun a => ⟨?_, fun hbusy => ?_, ?_⟩⟩
  · change decided.lane a = { s.lane a with state := (decided.lane a).state }
    rw [hlanes]
    split
    · exact decideLane_lane_of_empty (hempty a)
    · rfl
  · refine (hlanes a).trans ?_
    rw [decideLane_of_not_idle (s := reset) hbusy]
    exact ite_self _
  · intro u
    have hdecision : (decideLane u a).lane a = (decideLane reset a).lane a :=
      decideLane_lane_congr (hempty a) (eligible_of_none_queued (s := u) hnone a) rfl rfl rfl
    rw [hdecision]
    exact (hlanes a).trans (if_congr (mem_linkResetTold_iff r a) rfl rfl)

end Sys2Proof.Machine
end

section
/-!
PROOFS. Full reset by its three causes: the FULL RESET frame, the RESET_N pin and the supplies (O24, O26, O27).
-/
namespace Sys2Proof.Machine

/-! ## What a full reset leaves (R18, R164) -/

/-- What the interrupted writes leave depends on the lines written, the array and the count of draws only (R18). -/
theorem spoilLanes_congr (s : State) : ∀ (lanes : List LaneId) {t u : State}, u.array = t.array → u.draws = t.draws →
    (spoilLanes s lanes u).array = (spoilLanes s lanes t).array ∧
      (spoilLanes s lanes u).draws = (spoilLanes s lanes t).draws
  | [], _, _, harray, hdraws => ⟨harray, hdraws⟩
  | a :: lanes, t, u, harray, hdraws => by
    unfold spoilLanes
    rw [List.foldl_cons, List.foldl_cons]
    apply spoilLanes_congr s lanes
    · split
      · dsimp only
        rw [harray, hdraws]
      · exact harray
    · split
      · exact congrArg (· + 1) hdraws
      · exact hdraws

/-- The state after a full reset, block by block, with RESET_N at the level that it then has (R164). -/
theorem fullReset_eq (s : State) (pins : Pins) (link : Link) :
    fullReset { s with pins := pins, link := link } = { State.reset with
      pending := s.pending
      pins := pins
      array := (spoilWrites s).array
      draws := (spoilWrites s).draws
      rst := { State.reset.rst with interval := if pins.resetN then some .oneMs else none } } := by
  let t : State := { s with pins := pins, link := link }
  obtain ⟨harray, hdraws⟩ : (spoilWrites t).array = (spoilWrites s).array ∧ (spoilWrites t).draws = (spoilWrites s).draws :=
    spoilLanes_congr s allLanes (t := s) (u := t) rfl rfl
  rw [← harray, ← hdraws]
  rfl

theorem running_of_pins {s : State} (h : s.pins = { supplied := true, resetN := true }) : s.running = true := by
  rw [State.running, h]
  rfl

theorem pins_of_running {s : State} (h : s.running = true) : s.pins = { supplied := true, resetN := true } := by
  obtain ⟨hsupplied, hhigh⟩ := Bool.and_eq_true_iff.mp h
  exact congrArg₂ Pins.mk hsupplied hhigh

theorem not_running_of_unsupplied {s : State} (h : s.pins.supplied = false) : s.running = false := by
  rw [State.running, h]
  rfl

theorem not_running_of_low {s : State} (h : s.pins.resetN = false) : s.running = false := by
  rw [State.running, h, Bool.and_false]

/-- A full reset of a part that then runs, with the CREDIT that the sender begins (R150, R161). -/
theorem kick_fullReset_of_high (s : State) (link : Link) :
    kick (fullReset { s with pins := { supplied := true, resetN := true }, link := link }) = { State.reset with
      pending := s.pending
      array := (spoilWrites s).array
      draws := (spoilWrites s).draws
      link := { Link.afterReset LinkCounters.zero with
        pendingCredit := false, transmission := some { content := .credit, expected := 0#8, release := 0#8 } } } := by
  rw [fullReset_eq]
  exact kick_afterReset rfl rfl

/-- A full reset of a part that RESET_N then holds: no interval runs and nothing is sent (R161, R164). -/
theorem kick_fullReset_of_low (s : State) :
    kick (fullReset { s with pins := { supplied := true, resetN := false } }) = { State.reset with
      pending := s.pending
      pins := { supplied := true, resetN := false }
      array := (spoilWrites s).array
      draws := (spoilWrites s).draws
      rst := { State.reset.rst with interval := none } } := by
  rw [kick_of_not_running (not_running_of_low rfl)]
  exact fullReset_eq s _ s.link

/-! ## The frame (R150, R164) -/

/-- Settles O24: the acknowledgement changes the link only, and the link is reset. -/
theorem fullResetGivesEveryBlockItsResetValues : Obligations.FullResetGivesEveryBlockItsResetValues := by
  intro k s hs hr
  have hpins := pins_of_running hr
  have hself : s.onLink (·.acknowledge k) =
      { s with pins := { supplied := true, resetN := true }, link := s.link.acknowledge k } := by
    rw [← hpins]
    rfl
  have hexec : exec (.fullReset k) s = .next (kick (fullReset (s.onLink (·.acknowledge k)))) :=
    event_whileRunning hs hr _
  rw [hexec, hself, kick_fullReset_of_high, hpins]
  rfl

/-! ## The pin (R161, R164) -/

section
variable {s : State} (hs : s.settled)
include hs

theorem exec_resetNFall_of_low (h : s.pins.resetN = false) : exec .resetNFall s = .next s := by
  change execResetNFall s = _
  rw [execResetNFall, event_of_settled hs, h]
  exact congrArg Host.Outcome.next hs.1

theorem exec_resetNFall_of_high (h : s.pins.resetN = true) : exec .resetNFall s = .next (kick
    (if s.pins.supplied then fullReset { s with pins := { s.pins with resetN := false } }
      else { s with pins := { s.pins with resetN := false } })) := by
  change execResetNFall s = _
  rw [execResetNFall, event_of_settled hs, if_pos h]

theorem exec_resetNRise_of_low (h : s.pins.resetN = false) : exec .resetNRise s = .next (kick
    (if s.pins.supplied then
        { s with pins := { s.pins with resetN := true }, rst := { s.rst with interval := some .oneMs } }
      else { s with pins := { s.pins with resetN := true } })) := by
  change execResetNRise s = _
  rw [execResetNRise, event_of_settled hs, h]
  rfl

/-! ## The supplies (R165) -/

theorem exec_powerUp_of_supplied (h : s.pins.supplied = true) : exec .powerUp s = .next s := by
  change execPowerUp s = _
  rw [execPowerUp, event_of_settled hs, if_pos h, hs.1]

theorem exec_powerUp_of_unsupplied (h : s.pins.supplied = false) :
    exec .powerUp s = .next (kick (fullReset { s with pins := { s.pins with supplied := true } })) := by
  change execPowerUp s = _
  rw [execPowerUp, event_of_settled hs, h]
  rfl

theorem exec_supplyOutOfRange_of_supplied (h : s.pins.supplied = true) :
    exec .supplyOutOfRange s = .next (powerLost s) := by
  change execSupplyOutOfRange s = _
  rw [execSupplyOutOfRange, event_of_settled hs, if_pos h, kick_of_not_running (not_running_of_unsupplied rfl)]

theorem exec_supplyOutOfRange_of_unsupplied (h : s.pins.supplied = false) : exec .supplyOutOfRange s = .next s := by
  change execSupplyOutOfRange s = _
  rw [execSupplyOutOfRange, event_of_settled hs, h]
  exact congrArg Host.Outcome.next hs.1

end

/-! ## A part that is held or without supply (R161, R165) -/

section
variable {s : State} (hr : s.running = false)
include hr

theorem request_of_not_running (row : RequestRow) (owner : Request → State → State) :
    event (intTakes row owner) s = .next s := by
  have hhead : s.intHead = none := by simp [State.intHead, hr]
  rw [event_of_settled (settled_of_not_running hr), intTakes, hhead]
  exact congrArg Host.Outcome.next (kick_of_not_running hr)

theorem phaseCompletion_of_not_running (a : LaneId) (ph : Phase)
    (f : PageName → ArrayLine → Entry → Location → State → State) : phaseCompletion a ph f s = .next s := by
  rw [phaseCompletion, settle_of_settled (settled_of_not_running hr), hr]
  exact congrArg Host.Outcome.next (kick_of_not_running hr)

theorem internal_of_not_running (d : Due) : internal d s = .next s := by
  obtain ⟨-, hdue⟩ := settled_of_not_running hr
  rw [internal, hdue]
  exact if_neg nofun

/-- Nothing acts on a part that is held or without supply but the pin and the supplies (R161, R165). -/
theorem exec_of_not_running {c : Instr} (hc : c ∉ [.resetNFall, .resetNRise, .powerUp, .supplyOutOfRange]) :
    exec c s = .next s := by
  cases c with
  | resetNFall | resetNRise | powerUp | supplyOutOfRange => simp at hc
  | read | write | merge | fence | openSession | closeSession | closeWithDiscard | setProfile | getProfile | rest
  | wake | getStatus | getStatusClearCounters | getTableSuspect | getTableRemap | forget | forgetAll
  | unknownKindMessage => exact request_of_not_running hr _ _
  | readPhaseCompletion | writePhaseCompletion | writeBackPhaseCompletion =>
    exact phaseCompletion_of_not_running hr _ _ _
  | profileApplication | drainComplete | intReplyGrant | entryReplyGrant | closedReplyGrant | profileAppliedGrant
  | stcReplyGrant | noticeGrant => exact internal_of_not_running hr _
  | _ => exact event_of_not_running hr _

end

/-- A part that RESET_N holds changes at the rise and at the loss of a supply only (R161, R164). -/
theorem exec_of_held {s : State} (h : s.pins = { supplied := true, resetN := false }) {c : Instr}
    (hc : c ∉ [.resetNRise, .supplyOutOfRange]) : exec c s = .next s := by
  have hr : s.running = false := not_running_of_low (by rw [h])
  have hs := settled_of_not_running hr
  by_cases hfall : c = .resetNFall
  · rw [hfall, exec_resetNFall_of_low hs (by rw [h])]
  · by_cases hpower : c = .powerUp
    · rw [hpower, exec_powerUp_of_supplied hs (by rw [h])]
    · refine exec_of_not_running hr ?_
      simp only [List.mem_cons, not_or] at hc ⊢
      obtain ⟨hrise, hlost, -⟩ := hc
      exact ⟨hfall, hrise, hpower, hlost, List.not_mem_nil⟩

/-- A part without supply changes at power-up only, but for its pin (R165). -/
theorem exec_of_unsupplied {s : State} (h : s.pins.supplied = false) {c : Instr}
    (hc : c ∉ [.powerUp, .resetNFall, .resetNRise]) : exec c s = .next s := by
  have hr : s.running = false := not_running_of_unsupplied h
  by_cases hlost : c = .supplyOutOfRange
  · rw [hlost, exec_supplyOutOfRange_of_unsupplied (settled_of_not_running hr) h]
  · refine exec_of_not_running hr ?_
    simp only [List.mem_cons, not_or] at hc ⊢
    obtain ⟨hpower, hfall, hrise, -⟩ := hc
    exact ⟨hfall, hrise, hpower, hlost, List.not_mem_nil⟩

/-- The rise of a supplied part's pin (R72, R161, R164). -/
theorem exec_resetNRise_of_held {s : State} (h : s.pins = { supplied := true, resetN := false }) :
    exec .resetNRise s = .next (kick { s with
      pins := { supplied := true, resetN := true }, rst := { s.rst with interval := some .oneMs } }) := by
  have hs := settled_of_not_running (s := s) (not_running_of_low (by rw [h]))
  rw [exec_resetNRise_of_low hs (by rw [h]), h]
  rfl

/-- Settles O26: the fall is a full reset that the pin holds, and the rise lets the sender begin. -/
theorem resetPinHoldsThePartAndReleasesIt : Obligations.ResetPinHoldsThePartAndReleasesIt := by
  refine fun s => ⟨fun hs h => ?_, fun h => ⟨exec_resetNRise_of_held h, fun hlink => ?_, fun c => exec_of_held h⟩,
    fun h => ?_, fun h => ?_⟩
  · rw [exec_resetNFall_of_high hs (by rw [h]), h]
    exact congrArg Host.Outcome.next (kick_fullReset_of_low s)
  · let released : State := { s with
      pins := { supplied := true, resetN := true }, rst := { s.rst with interval := some .oneMs } }
    have hkick := kick_afterReset (s := released) rfl hlink
    exact ⟨kick released, exec_resetNRise_of_held h, by rw [hkick]⟩
  · have hs := settled_of_not_running (not_running_of_unsupplied (s := s) (by rw [h]))
    rw [exec_resetNFall_of_high hs (by rw [h]), h]
    exact congrArg Host.Outcome.next (kick_of_not_running (not_running_of_low rfl))
  · have hs := settled_of_not_running (not_running_of_unsupplied (s := s) (by rw [h]))
    rw [exec_resetNRise_of_low hs (by rw [h]), h]
    exact congrArg Host.Outcome.next (kick_of_not_running (not_running_of_unsupplied rfl))

/-- Settles O27: the loss leaves a part that does not run, and a power-up is a full reset in either position of the pin. -/
theorem suppliesLostAndRestored : Obligations.SuppliesLostAndRestored := by
  refine fun s => ⟨fun hs h => exec_supplyOutOfRange_of_supplied hs h,
    fun h => ⟨kick_of_not_running (not_running_of_unsupplied h), fun c => exec_of_unsupplied h⟩, fun h => ?_, fun h => ?_⟩
  · have hs := settled_of_not_running (not_running_of_unsupplied (s := s) (by rw [h]))
    rw [exec_powerUp_of_unsupplied hs (by rw [h]), h]
    exact congrArg Host.Outcome.next (kick_fullReset_of_high s s.link)
  · have hs := settled_of_not_running (not_running_of_unsupplied (s := s) (by rw [h]))
    rw [exec_powerUp_of_unsupplied hs (by rw [h]), h]
    exact congrArg Host.Outcome.next (kick_fullReset_of_low s)

end Sys2Proof.Machine
end

section
/-!
PROOFS. The device states: rest and wake, the completion of initialization and of wake, the end of the drain (O35, O52,
O54).
-/
namespace Sys2Proof.Machine

/-! ## A reply that may be owed (R171, R172) -/

theorem ite_produce (owed : Bool) (w : Waiting) (s : State) : (if owed then produce w s else s) =
    { s with waiting := s.waiting ++ if owed then [w] else [] } := by
  cases owed
  · exact congrArg (fun waiting => { s with waiting := waiting }) s.waiting.append_nil.symm
  · rfl

/-! ## Decisions of CLOSED lanes with nothing to do (R49, R55, R56) -/

theorem none_queued_of_empty {s : State} (h : s.table = []) : ∀ e ∈ s.table, e.state ≠ .queued := by
  rw [h]
  exact fun _ he => absurd he List.not_mem_nil

/-- A CLOSED lane without an eligible entry, where no step can be pulled in, restores when forced or in debt and else stays
(R49, R55, R56). -/
theorem decision_of_closed_of_empty {s : State} {a : LaneId} (hclosed : (s.lane a).state = .closed)
    (hempty : s.eligible a = []) (hpull : s.pullIn = false) :
    s.decision a = if (s.lane a).forced = true ∨ 1 ≤ (s.lane a).debt then .restore else .stay := by
  rw [decision_of_closed hclosed, decideClosed_of_empty hempty, hpull]
  cases (s.lane a).forced <;> simp

/-- Lanes that decide to stay change nothing (R48). -/
theorem tell_of_stay {s : State} : ∀ {lanes : List LaneId}, (∀ a ∈ lanes, s.decision a = .stay) → tell lanes s = s
  | [], _ => rfl
  | a :: lanes, h => by
    obtain ⟨ha, hrest⟩ := List.forall_mem_cons.mp h
    have hstay : decideLane s a = s := by rw [decideLane, ha, act_stay]
    calc tell (a :: lanes) s = tell lanes (decideLane s a) := rfl
      _ = s := by rw [hstay, tell_of_stay hrest]

/-! ## REST and WAKE (R168, R171, R172) -/

section
variable {s : State}

theorem exec_rest (hs : s.settled) (h : s.intHead = some Request.rest.bytes) :
    exec .rest s = .next (kick (restRequest s)) :=
  event_intTakes hs h (row := .rest) rfl _

theorem exec_wake (hs : s.settled) (h : s.intHead = some Request.wake.bytes) :
    exec .wake s = .next (kick (wakeRequest s)) :=
  event_intTakes hs h (row := .wake) rfl _

theorem restRequest_of_ready (hd : s.stc.device = .ready) (hstaged : s.prf.staged = none) : restRequest s =
    tell allLanes (depart { s with stc := { s.stc with device := .resting, restOwed := true } }) := by
  rw [restRequest, hd, hstaged]
  rfl

theorem restRequest_of_staged (hd : s.stc.device = .ready) (hstaged : s.prf.staged.isSome = true) :
    restRequest s = refuse 0#8 0#8 .profilePending s := by
  rw [restRequest, hd]
  exact if_pos hstaged

theorem restRequest_of_resting (hd : s.stc.device ∈ [.resting, .retained, .waking]) :
    restRequest s = refuse 0#8 0#8 .already s := by
  unfold restRequest
  cases hdevice : s.stc.device with
  | resting | retained | waking => rfl
  | initializing | unconfigured | ready => simp [hdevice] at hd

theorem wakeRequest_of_retained (hd : s.stc.device = .retained) : wakeRequest s =
    tell allLanes (depart { s with stc := { s.stc with device := .waking, wakeOwed := true, waking := true } }) := by
  rw [wakeRequest, hd]

theorem cancelRest_eq (s : State) : cancelRest s = tell allLanes (depart { s with
    stc := { s.stc with device := .ready, restOwed := false }
    waiting := s.waiting ++ (if s.stc.restOwed then [.stc .restCancelled] else []) ++ [.stc .awake] }) := by
  unfold cancelRest
  dsimp only
  rw [ite_produce]
  rfl

theorem wakeRequest_of_resting (hd : s.stc.device = .resting) : wakeRequest s = cancelRest s := by
  rw [wakeRequest, hd]

theorem wakeRequest_of_awake (hd : s.stc.device ∈ [.unconfigured, .ready, .waking]) :
    wakeRequest s = refuse 0#8 0#8 .already s := by
  unfold wakeRequest
  cases hdevice : s.stc.device with
  | unconfigured | ready | waking => rfl
  | initializing | resting | retained => simp [hdevice] at hd

end

/-- Settles O35: the requests by device state. -/
theorem restBeginsTheDrainAndWakeEndsTheRest : Obligations.RestBeginsTheDrainAndWakeEndsTheRest := by
  intro s hs refused
  refine ⟨fun hhead => ?_, fun hhead => ?_⟩
  · have hexec := exec_rest hs hhead
    have hrefused {reason : Reason} (h : restRequest s = refuse 0#8 0#8 reason s) : refused .rest reason := by
      change exec .rest s = .next (refuse 0#8 0#8 reason s)
      rw [hexec, h, kick_refuse hs]
    refine ⟨fun hd hstaged => ?_, fun hd hstaged => ?_, fun hd => ?_, fun hd => ?_, fun hd => ?_⟩
    · rw [hexec, restRequest_of_ready hd hstaged]
    · exact hrefused (restRequest_of_staged hd hstaged)
    · exact hrefused (by rw [restRequest, hd])
    · exact hrefused (by rw [restRequest, hd])
    · exact hrefused (restRequest_of_resting hd)
  · have hexec := exec_wake hs hhead
    have hrefused {reason : Reason} (h : wakeRequest s = refuse 0#8 0#8 reason s) : refused .wake reason := by
      change exec .wake s = .next (refuse 0#8 0#8 reason s)
      rw [hexec, h, kick_refuse hs]
    refine ⟨fun hd => ?_, fun hd => ?_, fun hd => ?_, fun hd => ?_⟩
    · rw [hexec, wakeRequest_of_retained hd]
    · rw [hexec, wakeRequest_of_resting hd, cancelRest_eq]
    · exact hrefused (by rw [wakeRequest, hd])
    · exact hrefused (wakeRequest_of_awake hd)

/-! ## Initialization and wake complete (R76, R166, R171) -/

/-- The part as initialization leaves it, before the lanes decide (R2, R62, R76, R166). -/
def initialized (s : State) : State := { s with
  array := Storage.initialized
  stc := { s.stc with device := .unconfigured, initializing := false }
  lanes := s.lanes.map (fun l => { l with debt := 0, forced := false, pointer := 0 })
  rst := { s.rst with timer := some s.nextPeriod } }

theorem initialized_lane (s : State) (a : LaneId) :
    (initialized s).lane a = { s.lane a with debt := 0, forced := false, pointer := 0 } :=
  Eight.get_map _ _ a

/-- After initialization no lane has anything to do: UNCONFIGURED pulls no step in (R56). -/
theorem decision_initialized {s : State} (htable : s.table = []) {a : LaneId} (hclosed : (s.lane a).state = .closed) :
    (initialized s).decision a = .stay := by
  have hnone := none_queued_of_empty (s := initialized s) htable
  rw [decision_of_closed_of_empty (by rw [initialized_lane, hclosed]) (eligible_of_none_queued hnone a) rfl,
    initialized_lane]
  rfl

theorem tell_initialized {s : State} (htable : s.table = []) (hclosed : ∀ a : LaneId, (s.lane a).state = .closed) :
    tell allLanes (initialized s) = initialized s :=
  tell_of_stay fun a _ => decision_initialized htable (hclosed a)

section
variable {s : State} (hs : s.settled)
include hs

theorem exec_arrayInitializationCompletion (hr : s.running = true) (h : s.stc.initializing = true) :
    exec .arrayInitializationCompletion s = .next (kick (tell allLanes (initialized s))) := by
  change execArrayInitializationCompletion s = _
  rw [execArrayInitializationCompletion, event_whileRunning hs hr, if_pos h]
  rfl

theorem exec_arrayInitializationCompletion_of_initialized (h : s.stc.initializing = false) :
    exec .arrayInitializationCompletion s = .next s :=
  event_whileRunning_of_eq hs (by rw [h]; rfl)

end

theorem wakeCompletes_of_waking {s : State} (h : s.stc.waking = true) : wakeCompletes s = tell allLanes { s with
    stc := { s.stc with device := .ready, waking := false, wakeOwed := false }
    waiting := s.waiting ++ (if s.stc.wakeOwed then [.stc .awake] else []) } := by
  rw [wakeCompletes, if_pos h]
  dsimp only
  rw [ite_produce]

theorem wakeCompletes_of_not_waking {s : State} (h : s.stc.waking = false) : wakeCompletes s = s := by
  rw [wakeCompletes, h]
  rfl

/-- Settles O52: after initialization every lane stays; after wake the lanes decide. -/
theorem initializationAndWakeComplete : Obligations.InitializationAndWakeComplete := by
  refine fun s hs hr => ⟨fun h htable hclosed => ⟨s.nextPeriod, s.nextPeriod_eq_double_iff, ?_⟩,
    exec_arrayInitializationCompletion_of_initialized hs, fun h => ?_,
    fun h => event_whileRunning_of_eq hs (wakeCompletes_of_not_waking h)⟩
  · have hkick : kick (initialized s) = initialized s := kick_of_kick hs.1 rfl rfl
    rw [exec_arrayInitializationCompletion hs hr h, tell_initialized htable hclosed, hkick]
    rfl
  · change event (whileRunning wakeCompletes) s = _
    rw [event_whileRunning hs hr, wakeCompletes_of_waking h]

/-! ## The end of the drain (R169, R170) -/

theorem State.drained_iff (s : State) : s.drained = true ↔
    s.stc.device = .resting ∧ s.table = [] ∧ ∀ a : LaneId, (s.lane a).state = .closed := by
  simp only [State.drained, Bool.and_eq_true, beq_iff_eq, List.isEmpty_iff, State.lanesClosed_iff, and_assoc]

/-- The part as the end of the drain leaves it, before the lanes decide (R169). -/
def retained (s : State) : State := { s with
  stc := { s.stc with device := .retained, restOwed := false }
  waiting := s.waiting ++ (if s.stc.restOwed then [.stc .rested] else []) }

theorem drainEnds_eq (s : State) : drainEnds s = tell allLanes (retained s) := by
  unfold drainEnds
  dsimp only
  rw [ite_produce]
  rfl

theorem due_of_drained {s : State} (hr : s.running = true) (hd : s.drained = true) : s.due = some .drain := by
  have happly : s.toApply = none := by rw [State.toApply, resting_of_drained hd]
  simp [State.due, hr, happly, hd]

theorem exec_drainComplete {s : State} (hr : s.running = true) (hd : s.drained = true) :
    exec .drainComplete s = .next (kick (tell allLanes (retained s))) := by
  change internal .drain s = _
  rw [internal, if_pos (due_of_drained hr hd), perform, drainEnds_eq]

/-- In RETAINED a lane begins a step when it is forced or in debt, and nothing else (R60, R170). -/
theorem tell_retained_lane {s : State} (hd : s.drained = true) (a : LaneId) :
    ((tell allLanes (retained s)).lane a).state =
      if (s.lane a).forced = true ∨ 1 ≤ (s.lane a).debt then .restoring else .closed := by
  obtain ⟨-, htable, hall⟩ := s.drained_iff.mp hd
  have hnone := none_queued_of_empty (s := retained s) htable
  have hlane : (retained s).lane a = s.lane a := rfl
  have hclosed : ((retained s).lane a).state = .closed := hall a
  obtain ⟨-, hlanes⟩ := tell_of_none_queued allLanes (by decide) hnone
  rw [hlanes, if_pos (mem_allLanes a), decideLane,
    decision_of_closed_of_empty hclosed (eligible_of_none_queued hnone a) rfl, hlane]
  split
  · rw [act_restore hclosed, State.setLaneState_lane, if_pos rfl]
  · rw [act_stay, hclosed]

/-- Settles O54: the drain is the due step in RESTING, and no entry is left that a lane could open a page for. -/
theorem drainCompleteEntersRetained : Obligations.DrainCompleteEntersRetained := by
  refine ⟨State.drained_iff, fun s hr hd => ⟨exec_drainComplete hr hd, fun t ht a => ?_⟩⟩
  obtain rfl := Host.Outcome.next.inj ((exec_drainComplete hr hd).symm.trans ht)
  rw [State.lane, kick_lanes]
  exact tell_retained_lane hd a

end Sys2Proof.Machine
end

section
/-!
PROOFS. The layout of a STATUS message (O15).
-/
namespace Sys2Proof

theorem Eight.toList_getElem? {α : Type} (v : Eight α) (i : Fin 8) : v.toList[i.val]? = some (v.get i) := by
  fin_cases i <;> rfl

theorem Four.toList_getElem? {α : Type} (v : Four α) (i : Fin 4) : v.toList[i.val]? = some (v.get i) := by
  fin_cases i <;> rfl

namespace Machine

/-! ## Bytes by their position -/

theorem byteAt_append_left {p : List Byte} {i : Nat} (h : i < p.length) (q : List Byte) :
    byteAt (p ++ q) i = byteAt p i :=
  List.getD_append p q 0 i h

theorem byteAt_append_right {p : List Byte} {n : Nat} (h : p.length = n) (q : List Byte) (i : Nat) :
    byteAt (p ++ q) (n + i) = byteAt q i := by
  subst h
  simpa [byteAt] using List.getD_append_right p q 0 (p.length + i) (Nat.le_add_right _ _)

/-- Of blocks of n bytes each, block j stands from n times j on. -/
theorem byteAt_flatMap {α : Type} {f : α → List Byte} {n : Nat} (h : ∀ x, (f x).length = n) {i : Nat} (hi : i < n)
    (rest : List Byte) {x : α} : ∀ {xs : List α} {j : Nat}, xs[j]? = some x →
      byteAt (xs.flatMap f ++ rest) (n * j + i) = byteAt (f x) i
  | [], _, hx => nomatch hx
  | y :: ys, 0, hx => by
    obtain rfl : y = x := Option.some.inj hx
    rw [Nat.mul_zero, Nat.zero_add, List.flatMap_cons, List.append_assoc,
      byteAt_append_left (hi.trans_eq (h y).symm)]
  | y :: ys, j + 1, hx => by
    have hplace : n * (j + 1) + i = n + (n * j + i) := by rw [Nat.mul_succ]; omega
    rw [hplace, List.flatMap_cons, List.append_assoc, byteAt_append_right (h y)]
    exact byteAt_flatMap h hi rest hx

/-- Two bytes hold a number modulo 65,536 (R183). -/
theorem oneByte_add_256_mul_oneByte_mod (n : Nat) :
    (oneByte n).toNat + 256 * (oneByte (n / 256)).toNat = n % 65536 := by
  simp only [oneByte, BitVec.toNat_ofNat]
  omega

/-! ## The blocks of a STATUS message (section 12.4) -/

/-- A page's number as the messages carry it (R183). -/
def pageNumber : Option PageName → Nat
  | none => 0
  | some (.page p) => p.val
  | some .spareRow => 0xFFFF

theorem pageBytes_eq (p : Option PageName) : pageBytes p = twoBytes (pageNumber p) := by
  rcases p with _ | _ | _ <;> rfl

theorem pageNumber_lt (p : Option PageName) : pageNumber p < 65536 := by
  rcases p with _ | p | _
  · decide
  · exact p.isLt.trans (by decide)
  · decide

theorem LaneReport.stateBytes_eq (r : LaneReport) : r.stateBytes =
    [ r.code.code, oneByte (pageNumber r.page), oneByte (pageNumber r.page / 256), oneByte r.queueLength
    , BitVec.ofInt 8 r.debt, oneByte (bit r.forced), oneByte r.sparesFree, oneByte r.sparesInUse
    , oneByte r.sparesRetired ] := by
  rw [LaneReport.stateBytes, pageBytes_eq]
  rfl

/-- Bytes 0 to 13 of a STATUS message: its kind and the items before the lanes. -/
def Snapshot.headBytes (r : Snapshot) : List Byte :=
  [ 0xC0#8, 0#8, 0#8, r.device.code
  , oneByte (bit r.activeLabel.isSome + bit (r.activeLabel.isSome && r.stagedLabel.isSome)) ] ++
    labelBytes r.activeLabel ++ labelBytes r.stagedLabel ++
    [ r.band.code, oneByte (bit r.lastReading.isSome), BitVec.ofInt 8 (r.lastReading.getD 0), oneByte r.pool
    , oneByte r.occupancy ]

/-- The seven device counters, the last 14 bytes of a STATUS message. -/
def Snapshot.deviceCounterBytes (r : Snapshot) : List Byte :=
  twoBytes r.suspectOverflow ++ twoBytes r.link.crc ++ twoBytes r.link.duplicate ++ twoBytes r.link.reject ++
    twoBytes r.link.ackRange ++ twoBytes r.link.resendIgnored ++ twoBytes r.link.replayExpiry

theorem status_bytes_eq (r : Snapshot) : (Message.status r).bytes =
    r.headBytes ++ (r.lanes.toList.flatMap LaneReport.stateBytes ++ (r.slots.toList.flatMap SlotReport.bytes ++
      (r.lanes.toList.flatMap LaneReport.counterBytes ++ r.deviceCounterBytes))) := by
  simp only [Message.bytes, Snapshot.bytes, Snapshot.headBytes, Snapshot.deviceCounterBytes, List.append_assoc,
    List.cons_append, List.nil_append]

section
variable (r : Snapshot)

theorem Snapshot.headBytes_length : r.headBytes.length = 14 := rfl

theorem Snapshot.stateBlocks_length : (r.lanes.toList.flatMap LaneReport.stateBytes).length = 72 :=
  length_flatMap_of_forall LaneReport.stateBytes_length _

theorem Snapshot.slotBlocks_length : (r.slots.toList.flatMap SlotReport.bytes).length = 16 :=
  length_flatMap_of_forall SlotReport.bytes_length _

theorem Snapshot.counterBlocks_length : (r.lanes.toList.flatMap LaneReport.counterBytes).length = 48 :=
  length_flatMap_of_forall LaneReport.counterBytes_length _

theorem byteAt_status_head {i : Nat} (hi : i < 14) : byteAt (Message.status r).bytes i = byteAt r.headBytes i := by
  rw [status_bytes_eq, byteAt_append_left]
  exact hi

theorem byteAt_status_lane (a : LaneId) {i : Nat} (hi : i < 9) :
    byteAt (Message.status r).bytes (14 + i + 9 * a.val) = byteAt (r.lanes.get a).stateBytes i := by
  have hplace : 14 + i + 9 * a.val = 14 + (9 * a.val + i) := by omega
  rw [hplace, status_bytes_eq, byteAt_append_right r.headBytes_length]
  exact byteAt_flatMap LaneReport.stateBytes_length hi _ (r.lanes.toList_getElem? a)

theorem byteAt_status_slot (k : SlotId) {i : Nat} (hi : i < 4) :
    byteAt (Message.status r).bytes (86 + i + 4 * k.val) = byteAt (r.slots.get k).bytes i := by
  have hplace : 86 + i + 4 * k.val = 14 + (72 + (4 * k.val + i)) := by omega
  rw [hplace, status_bytes_eq, byteAt_append_right r.headBytes_length, byteAt_append_right r.stateBlocks_length]
  exact byteAt_flatMap SlotReport.bytes_length hi _ (r.slots.toList_getElem? k)

theorem byteAt_status_laneCounter (a : LaneId) {i : Nat} (hi : i < 6) :
    byteAt (Message.status r).bytes (102 + i + 6 * a.val) = byteAt (r.lanes.get a).counterBytes i := by
  have hplace : 102 + i + 6 * a.val = 14 + (72 + (16 + (6 * a.val + i))) := by omega
  rw [hplace, status_bytes_eq, byteAt_append_right r.headBytes_length, byteAt_append_right r.stateBlocks_length,
    byteAt_append_right r.slotBlocks_length]
  exact byteAt_flatMap LaneReport.counterBytes_length hi _ (r.lanes.toList_getElem? a)

theorem byteAt_status_deviceCounter (i : Nat) :
    byteAt (Message.status r).bytes (150 + i) = byteAt r.deviceCounterBytes i := by
  have hplace : 150 + i = 14 + (72 + (16 + (48 + i))) := by omega
  rw [hplace, status_bytes_eq, byteAt_append_right r.headBytes_length, byteAt_append_right r.stateBlocks_length,
    byteAt_append_right r.slotBlocks_length, byteAt_append_right r.counterBlocks_length]

theorem twoBytesAt_status_head {i : Nat} (hi : i + 1 < 14) :
    twoBytesAt (Message.status r).bytes i = twoBytesAt r.headBytes i := by
  rw [twoBytesAt, byteAt_status_head r (Nat.lt_of_succ_lt hi), byteAt_status_head r hi, twoBytesAt]

theorem twoBytesAt_status_page (a : LaneId) :
    twoBytesAt (Message.status r).bytes (15 + 9 * a.val) = pageNumber (r.lanes.get a).page := by
  have hlow : byteAt (Message.status r).bytes (15 + 9 * a.val) = _ := byteAt_status_lane r a (i := 1) (by decide)
  have hhigh := byteAt_status_lane r a (i := 2) (by decide)
  have hnext : 15 + 9 * a.val + 1 = 14 + 2 + 9 * a.val := by omega
  rw [twoBytesAt, hnext, hhigh, hlow, LaneReport.stateBytes_eq]
  exact oneByte_add_256_mul_oneByte (pageNumber_lt _)

theorem twoBytesAt_status_deviceCounter (i : Nat) :
    twoBytesAt (Message.status r).bytes (150 + i) = twoBytesAt r.deviceCounterBytes i := by
  rw [twoBytesAt, Nat.add_assoc, byteAt_status_deviceCounter, byteAt_status_deviceCounter, twoBytesAt]

end

/-- The profile state of R183: 0 without an active profile, 1 with one, 2 with a staged one as well. -/
theorem oneByte_profileState (active staged : Bool) : oneByte (bit active + bit (active && staged)) =
    if active then (if staged then 2#8 else 1#8) else 0#8 := by
  cases active <;> cases staged <;> rfl

/-- Settles O15: the items block by block. -/
theorem statusMessageLayout : Obligations.StatusMessageLayout := by
  intro r b
  have head {i : Nat} (hi : i < 14) : byteAt b i = byteAt r.headBytes i := byteAt_status_head r hi
  refine ⟨head (by decide), head (by decide), head (by decide), head (by decide),
    (head (by decide)).trans (oneByte_profileState _ _),
    (twoBytesAt_status_head r (by decide)).trans (oneByte_add_256_mul_oneByte (BitVec.isLt _)),
    (twoBytesAt_status_head r (by decide)).trans (oneByte_add_256_mul_oneByte (BitVec.isLt _)),
    head (by decide), (head (by decide)).trans (oneByte_bit _), head (by decide), head (by decide), head (by decide),
    fun a => ?_, fun k => ?_, ?_⟩
  · intro n
    have state (i : Fin 9) := (byteAt_status_lane r a i.isLt).trans (congrArg (byteAt · i.val) n.stateBytes_eq)
    have counter (i : Fin 6) := byteAt_status_laneCounter r a i.isLt
    refine ⟨state 0, (twoBytesAt_status_page r a).trans ?_, state 3, state 4, (state 5).trans (oneByte_bit _), state 6,
      state 7, state 8, counter 0, counter 1, counter 2, counter 3, counter 4, counter 5⟩
    rcases n.page with _ | _ | _ <;> rfl
  · have slot (i : Fin 4) := byteAt_status_slot r k i.isLt
    exact ⟨slot 0, slot 1, slot 2, slot 3⟩
  · have counter := twoBytesAt_status_deviceCounter r
    rw [counter 0, counter 2, counter 4, counter 6, counter 8, counter 10, counter 12]
    simp only [List.map_cons, List.map_nil, ← oneByte_add_256_mul_oneByte_mod]
    rfl

end Machine
end Sys2Proof
end

section
/-!
PROOFS. GET STATUS: the snapshot and the clearing of the counters (O36).
-/
namespace Sys2Proof.Machine

/-! ## The counters take no part in the sender's choice (R153, R162) -/

theorem Link.choose_counters (l : Link) (c : LinkCounters) :
    ({ l with counters := c } : Link).choose = { l.choose with counters := c } := by
  unfold Link.choose Link.begin
  dsimp only
  split
  · rfl
  · split
    · rfl
    · split
      · rfl
      · split
        · split <;> rfl
        · split
          · rfl
          · split <;> rfl

/-- A change that leaves pins and link but the counters alone leaves the sender with nothing new to choose. -/
theorem kick_of_counters {s t : State} (h : kick s = s) {c : LinkCounters} (hl : t.link = { s.link with counters := c })
    (hp : t.pins = s.pins) : kick t = t := by
  have hrunning : t.running = s.running := by rw [State.running, hp, State.running]
  have htransmission : t.link.transmission = s.link.transmission := by rw [hl]
  by_cases hr : s.running = true
  · by_cases hidle : s.link.transmission = none
    · have hchoose : s.link.choose = s.link := congrArg State.link ((kick_of_idle hr hidle).symm.trans h)
      have hsame : t.link.choose = t.link := by rw [hl, Link.choose_counters, hchoose]
      rw [kick_of_idle (hrunning.trans hr) (htransmission.trans hidle), hsame]
    · exact kick_of_busy (by rwa [htransmission])
  · exact kick_of_not_running (by rw [hrunning]; exact Bool.eq_false_iff.mpr hr)

/-! ## GET STATUS is taken (R178, R179) -/

theorem rowOf_getStatus (clear : Bool) :
    rowOf (Request.getStatus clear).bytes = if clear then .getStatusClearCounters else .getStatus := by
  cases clear <;> rfl

theorem decodeMessage_getStatus (clear : Bool) :
    decodeMessage (Request.getStatus clear).bytes = .ok (.getStatus clear) := by
  cases clear <;> rfl

section
variable {s : State} (hs : s.settled)
include hs

theorem exec_getStatus (hhead : s.intHead = some (Request.getStatus false).bytes) :
    exec .getStatus s = .next (reply (.status s.snapshot) s) := by
  change execGetStatus s = _
  rw [execGetStatus, event_intTakes hs hhead (row := .getStatus) (rowOf_getStatus false),
    decodeMessage_getStatus]
  exact congrArg _ (kick_reply hs _)

theorem exec_getStatusClearCounters (hhead : s.intHead = some (Request.getStatus true).bytes) :
    exec .getStatusClearCounters s = .next (reply (.status s.snapshot) (clearCounters s)) := by
  change execGetStatusClearCounters s = _
  rw [execGetStatusClearCounters,
    event_intTakes hs hhead (row := .getStatusClearCounters) (rowOf_getStatus true), decodeMessage_getStatus]
  exact congrArg _ (kick_of_counters hs.1 rfl rfl)

end

/-! ## The items of the snapshot (R178) -/

theorem State.snapshot_lane (s : State) (a : LaneId) : s.snapshot.lanes.get a = s.laneReport a := by
  fin_cases a <;> rfl

theorem State.snapshot_slot (s : State) (k : SlotId) : s.snapshot.slots.get k = s.slotReport k := by
  fin_cases k <;> rfl

theorem Lane.spareCount_eq_count (l : Lane) (st : SpareState) : l.spareCount st = l.spares.toList.count st :=
  List.countP_eq_length_filter.symm

/-- Settles O36: the snapshot of the state itself, item by item. -/
theorem statusAnswersAndCountersCleared : Obligations.StatusAnswersAndCountersCleared := by
  intro s hs
  refine ⟨s.snapshot, exec_getStatus hs, exec_getStatusClearCounters hs, rfl, rfl, rfl, rfl, rfl, s.pool_eq, rfl,
    fun a => ?_, fun k => ?_, rfl, rfl⟩
  · rw [s.snapshot_lane a]
    refine ⟨?_, rfl, rfl, rfl, Lane.spareCount_eq_count _ _, Lane.spareCount_eq_count _ _,
      Lane.spareCount_eq_count _ _, rfl, rfl, rfl⟩
    rw [State.laneReport]
    cases (s.lane a).state <;> rfl
  · rw [s.snapshot_slot k]
    exact ⟨rfl, rfl, rfl, rfl⟩

end Sys2Proof.Machine
end

section
/-!
PROOFS. The command at the front of the queue (O1), the check code (O8) and what a down frame carries (O9).
-/
namespace Sys2Proof.Machine

/-- Settles O1: the second branch of `step`. -/
theorem stepRunsTheFrontCommand : Obligations.StepRunsTheFrontCommand := by
  intro c rest s h
  rw [step, h]

/-! ## The check code (R185) -/

/-- An input bit equal to the leading bit of the code cancels it: the division only shifts. -/
theorem crcBit_msb (code : BitVec 16) : crcBit code code.msb = code <<< 1 := by
  simp [crcBit]

/-- After i shifts bit 15 - i of the code leads. -/
theorem crcBit_shiftLeft (code : BitVec 16) {i : Nat} (h : i < 16) :
    crcBit (code <<< i) (code.getLsbD (15 - i)) = code <<< (i + 1) := by
  have hlead : (code <<< i).msb = code.getLsbD (15 - i) := by
    simp [BitVec.msb_eq_getLsbD_last, show ¬ 15 < i by omega, BitVec.getLsbD_eq_getElem (show 15 - i < 16 by omega)]
  rw [← hlead, crcBit_msb, BitVec.shiftLeft_add]

/-- The byte of the code that leads after i shifts, run through the division, shifts the code on by 8. -/
theorem crcByte_shiftLeft (code : BitVec 16) {i : Nat} (h : i ≤ 8) :
    crcByte (code <<< i) (code.extractLsb' (8 - i) 8) = code <<< (i + 8) := by
  have hbit (j p : Nat) (hp : j + p = 7) :
      crcBit (code <<< (i + j)) ((code.extractLsb' (8 - i) 8).getLsbD p) = code <<< (i + j + 1) := by
    have hplace : 8 - i + p = 15 - (i + j) := by omega
    rw [← crcBit_shiftLeft code (by omega : i + j < 16), BitVec.getLsbD_extractLsb',
      decide_eq_true (by omega : p < 8), Bool.true_and, hplace]
  have hfirst : crcBit (code <<< i) ((code.extractLsb' (8 - i) 8).getLsbD 7) = code <<< (i + 1) := hbit 0 7 rfl
  rw [crcByte]
  simp only [List.foldl_cons, List.foldl_nil]
  rw [hfirst, hbit 1 6 rfl, hbit 2 5 rfl, hbit 3 4 rfl, hbit 4 3 rfl, hbit 5 2 rfl, hbit 6 1 rfl, hbit 7 0 rfl]

/-- Run over its own two bytes, the more significant first, a code is shifted out. -/
theorem crcBytes_cancel (code : BitVec 16) :
    crcByte (crcByte code (code.extractLsb' 8 8)) (code.extractLsb' 0 8) = 0#16 := by
  have hhigh : crcByte code (code.extractLsb' 8 8) = code <<< 8 := by
    simpa using crcByte_shiftLeft code (i := 0) (by decide)
  have hlow : crcByte (code <<< 8) (code.extractLsb' 0 8) = code <<< 16 := crcByte_shiftLeft code (i := 8) (by decide)
  rw [hhigh, hlow]
  exact BitVec.shiftLeft_eq_zero (Nat.le_refl 16)

theorem sealed_length (bytes : List Byte) : (sealed bytes).length = bytes.length + 2 := by
  simp [sealed, crcBytes]

theorem crc16_sealed (bytes : List Byte) : crc16 (sealed bytes) = 0#16 := by
  rw [sealed, crc16, List.foldl_append]
  exact crcBytes_cancel (crc16 bytes)

theorem passesCheck_iff (frame : List Byte) : passesCheck frame = true ↔ ∃ bytes, frame = sealed bytes := by
  rw [passesCheck, Bool.and_eq_true, decide_eq_true_eq, decide_eq_true_eq]
  constructor
  · rintro ⟨-, hcode⟩
    refine ⟨frame.take (frame.length - 2), ?_⟩
    rw [sealed, hcode, List.take_append_drop]
  · rintro ⟨bytes, rfl⟩
    rw [sealed_length, Nat.add_sub_cancel, sealed, List.take_left, List.drop_left]
    exact ⟨Nat.le_add_left 2 _, rfl⟩

/-- Settles O8: the code cancels itself, and a frame that passes is its bytes before the code, sealed. -/
theorem checkCodeOfAFrame : Obligations.CheckCodeOfAFrame :=
  ⟨crc16_sealed, by decide +kernel, passesCheck_iff⟩

/-! ## The bytes of a down frame, received (R147, R182) -/

theorem receive_sealed {bytes : List Byte} (h : goodShape (sealed bytes) = true) :
    receive (sealed bytes) = classify (sealed bytes) :=
  receive_of_passed ((passesCheck_iff _).mpr ⟨bytes, rfl⟩) h

theorem downFrame_sequenced_length (k n : Byte) (m : List Byte) :
    (downFrame (.sequenced k n m)).length = 6 + m.length := by
  rw [downFrame, sealed_length]
  exact Nat.add_comm m.length 6

theorem receive_sequencedFrame (k n : Byte) {m : List Byte} (h : m.length < 256) :
    receive (downFrame (.sequenced k n m)) = .sequenced k n m := by
  have hcount : (oneByte m.length).toNat = m.length := by
    rw [oneByte, BitVec.toNat_ofNat]
    exact Nat.mod_eq_of_lt h
  have hlength : (downFrame (.sequenced k n m)).length = 6 + (oneByte m.length).toNat := by
    rw [downFrame_sequenced_length, hcount]
  refine (receive_sealed ((goodShape_iff _).mpr ⟨?_, fun _ => hlength, fun hlink => ?_⟩)).trans ?_
  · exact (Nat.le_add_right 6 _).trans_eq hlength.symm
  · exact absurd (show 0x10#8 ∈ _ from hlink) (by decide)
  · have hmessage : (m ++ crcBytes (0x10#8 :: k :: n :: oneByte m.length :: m)).take (oneByte m.length).toNat = m := by
      rw [hcount, List.take_left]
    exact congrArg (Received.sequenced k n) hmessage

/-- A link frame is told by its class byte alone (section 12.1). -/
theorem receive_linkFrame {c : Byte} (hc : c ∈ [0x20#8, 0x21#8, 0x2E#8, 0x2F#8]) (k n : Byte) :
    receive (sealed [c, k, n, 0#8]) = classify (sealed [c, k, n, 0#8]) := by
  refine receive_sealed ((goodShape_iff _).mpr ⟨Nat.le_refl 6, fun hsequenced => ?_, fun _ => ⟨rfl, rfl⟩⟩)
  obtain rfl : c = 0x10#8 := hsequenced
  exact absurd hc (by decide)

theorem receive_downFrame {r : Received} (hfailed : ∀ link : Bool, r ≠ .failed link)
    (hlength : ∀ (k n : Byte) (m : List Byte), r = .sequenced k n m → m.length < 256) :
    receive (downFrame r) = r := by
  cases r with
  | sequenced k n m => exact receive_sequencedFrame k n (hlength k n m rfl)
  | ack k => exact receive_linkFrame (by decide) k 0#8
  | resend k n => exact receive_linkFrame (by decide) k n
  | linkReset k => exact receive_linkFrame (by decide) k 0#8
  | fullReset k => exact receive_linkFrame (by decide) k 0#8
  | failed link => exact absurd rfl (hfailed link)

/-! ## Received bytes, laid out again (R147, R182) -/

/-- Bytes that are not discarded are four bytes of header and a body, sealed, of the shape of their class. -/
theorem exists_sealed_of_receive {frame : List Byte} {r : Received} (h : receive frame = r)
    (hr : ∀ link : Bool, r ≠ .failed link) :
    ∃ (c k n l : Byte) (body : List Byte), frame = sealed (c :: k :: n :: l :: body) ∧ classify frame = r ∧
      (c = 0x10#8 → body.length = l.toNat) ∧
      (c ∈ [0x20#8, 0x21#8, 0x2E#8, 0x2F#8] → body = [] ∧ l = 0#8) := by
  by_cases hpassed : passesCheck frame = true ∧ goodShape frame = true
  · obtain ⟨hcheck, hshape⟩ := hpassed
    have hclassify : classify frame = r := (receive_of_passed hcheck hshape).symm.trans h
    obtain ⟨bytes, rfl⟩ := (passesCheck_iff frame).mp hcheck
    obtain ⟨hsix, hsequenced, hlink⟩ := (goodShape_iff _).mp hshape
    rw [sealed_length] at hsix hsequenced hlink
    match bytes with
    | [] | [_] | [_, _] | [_, _, _] => simp at hsix
    | c :: k :: n :: l :: body =>
      refine ⟨c, k, n, l, body, rfl, hclassify, fun hc => ?_, fun hc => ?_⟩
      · have hcount : body.length + 6 = 6 + l.toNat := hsequenced hc
        omega
      · obtain ⟨hcount, hzero⟩ := hlink hc
        exact ⟨List.eq_nil_of_length_eq_zero (Nat.add_right_cancel (m := 6) hcount), hzero⟩
  · exact absurd (h.symm.trans (receive_of_not_passed hpassed)) (hr _)

theorem classify_eq_sequenced {frame : List Byte} {k n : Byte} {m : List Byte} (h : classify frame = .sequenced k n m) :
    byteAt frame 0 = 0x10#8 ∧ byteAt frame 1 = k ∧ byteAt frame 2 = n ∧
      (frame.drop 4).take (byteAt frame 3).toNat = m := by
  rw [classify] at h
  split_ifs at h with hc
  exact ⟨hc, Received.sequenced.inj h⟩

theorem classify_eq_resend {frame : List Byte} {k n : Byte} (h : classify frame = .resend k n) :
    byteAt frame 0 = 0x21#8 ∧ byteAt frame 1 = k ∧ byteAt frame 2 = n := by
  rw [classify] at h
  split_ifs at h with hsequenced hack hc
  exact ⟨hc, Received.resend.inj h⟩

theorem eq_downFrame_of_receive_sequenced {frame : List Byte} {k n : Byte} {m : List Byte}
    (h : receive frame = .sequenced k n m) : m.length < 256 ∧ frame = downFrame (.sequenced k n m) := by
  obtain ⟨c, k', n', l, body, rfl, hclassify, hbody, -⟩ := exists_sealed_of_receive h nofun
  obtain ⟨rfl, rfl, rfl, hmessage⟩ : c = 0x10#8 ∧ k' = k ∧ n' = n ∧ (body ++ crcBytes _).take l.toNat = m :=
    classify_eq_sequenced hclassify
  have hcount : body.length = l.toNat := hbody rfl
  rw [← hcount, List.take_left] at hmessage
  subst hmessage
  refine ⟨hcount ▸ l.isLt, ?_⟩
  rw [downFrame, hcount, oneByte_toNat]

theorem eq_downFrame_of_receive_resend {frame : List Byte} {k n : Byte} (h : receive frame = .resend k n) :
    frame = downFrame (.resend k n) := by
  obtain ⟨c, k', n', l, body, rfl, hclassify, -, hshape⟩ := exists_sealed_of_receive h nofun
  obtain ⟨rfl, rfl, rfl⟩ : c = 0x21#8 ∧ k' = k ∧ n' = n := classify_eq_resend hclassify
  obtain ⟨rfl, rfl⟩ := hshape (by decide)
  rfl

/-- Settles O9: each frame is received as laid out; a body and its length byte give each other. -/
theorem downFramesDecodeToWhatTheyCarry : Obligations.DownFramesDecodeToWhatTheyCarry := by
  refine ⟨fun r hfailed hlength => ⟨receive_downFrame hfailed hlength, ?_⟩,
    fun _ _ _ _ => eq_downFrame_of_receive_sequenced, fun _ _ _ => eq_downFrame_of_receive_resend⟩
  cases r with
  | sequenced k n m => exact downFrame_sequenced_length k n m
  | ack | resend | linkReset | fullReset => rfl
  | failed link => exact absurd rfl (hfailed link)

end Sys2Proof.Machine
end

section
/-!
PROOFS. What a request message carries (O11), and the refusal of malformed messages (O12).
-/
namespace Sys2Proof.Machine

/-! ## Decoding (R184) -/

theorem requestKind_code (k : RequestKind) : requestKind k.code = some k := by
  cases k <;> rfl

/-- One test of `requestKind`: a byte that it takes is its kind's code, every other byte is left to the tests behind. -/
theorem eq_code_of_ite {code c : Byte} {k k' : RequestKind} {others : Option RequestKind} (hc : c = k'.code)
    (hothers : others = some k → code = k.code) (h : (if code = c then some k' else others) = some k) :
    code = k.code := by
  split at h
  · next hcode =>
    obtain rfl := Option.some.inj h
    exact hcode.trans hc
  · exact hothers h

theorem requestKind_eq_some {code : Byte} {k : RequestKind} : requestKind code = some k → code = k.code := by
  unfold requestKind
  iterate 13 refine eq_code_of_ite rfl ?_
  exact nofun

theorem decodeMessage_of_no_kind {m : List Byte} (hm : m ≠ []) (h : requestKind (byteAt m 0) = none) :
    decodeMessage m = .bad .badKind := by
  obtain ⟨code, rest, rfl⟩ := List.exists_cons_of_ne_nil hm
  have hnone : requestKind code = none := h
  rw [decodeMessage, hnone]

/-- The tests of R184 that follow on byte 0. -/
theorem decodeMessage_of_kind {m : List Byte} {k : RequestKind} (hm : m ≠ []) (h : byteAt m 0 = k.code) :
    decodeMessage m =
      if m.length ≠ k.length then .bad .badLength
      else if reservedClear k m then .ok (readRequest k m)
      else .bad .badField := by
  obtain ⟨code, rest, rfl⟩ := List.exists_cons_of_ne_nil hm
  obtain rfl : code = k.code := h
  rw [decodeMessage, requestKind_code]

theorem RequestKind.length_pos (k : RequestKind) : 0 < k.length := by
  cases k <;> decide

/-- A message decodes exactly when it passes the three tests of R184, and then to the fields at their places. -/
theorem decodeMessage_eq_ok_iff {m : List Byte} {r : Request} : decodeMessage m = .ok r ↔
    ∃ k : RequestKind, byteAt m 0 = k.code ∧ m.length = k.length ∧ reservedClear k m = true ∧ readRequest k m = r := by
  constructor
  · intro h
    by_cases hm : m = []
    · subst hm
      exact nomatch h
    · cases hkind : requestKind (byteAt m 0) with
      | none =>
        rw [decodeMessage_of_no_kind hm hkind] at h
        exact nomatch h
      | some k =>
        have hcode := requestKind_eq_some hkind
        rw [decodeMessage_of_kind hm hcode] at h
        split_ifs at h with hlength hreserved
        exact ⟨k, hcode, not_not.mp hlength, hreserved, Decoded.ok.inj h⟩
  · rintro ⟨k, hcode, hlength, hreserved, rfl⟩
    have hm : m ≠ [] := List.ne_nil_of_length_pos (hlength ▸ k.length_pos)
    rw [decodeMessage_of_kind hm hcode, if_neg (not_not.mpr hlength), if_pos hreserved]

/-! ## Numbers and flags by their bytes (R183) -/

/-- Three bytes, least significant first, hold every number below 16,777,216. -/
theorem oneByte_add_256_add_65536 {n : Nat} (h : n < 16777216) :
    (oneByte n).toNat + 256 * (oneByte (n / 256)).toNat + 65536 * (oneByte (n / 65536)).toNat = n := by
  simp only [oneByte, BitVec.toNat_ofNat]
  omega

theorem twoBytesAt_lt (m : List Byte) (i : Nat) : twoBytesAt m i < 65536 := by
  have hlow := (byteAt m i).isLt
  have hhigh := (byteAt m (i + 1)).isLt
  rw [twoBytesAt]
  omega

theorem threeBytesAt_lt (m : List Byte) (i : Nat) : threeBytesAt m i < 16777216 := by
  have hlow := twoBytesAt_lt m i
  have hhigh := (byteAt m (i + 2)).isLt
  rw [threeBytesAt]
  omega

theorem twoBytes_twoBytesAt (m : List Byte) (i : Nat) :
    twoBytes (twoBytesAt m i) = [byteAt m i, byteAt m (i + 1)] := by
  have hvalue : (BitVec.ofNat 16 (twoBytesAt m i)).toNat = twoBytesAt m i := by
    rw [BitVec.toNat_ofNat]
    exact Nat.mod_eq_of_lt (twoBytesAt_lt m i)
  rw [← hvalue]
  exact twoBytes_label (byteAt m i) (byteAt m (i + 1))

theorem threeBytes_threeBytesAt (m : List Byte) (i : Nat) :
    threeBytes (threeBytesAt m i) = [byteAt m i, byteAt m (i + 1), byteAt m (i + 2)] := by
  have h0 := (byteAt m i).isLt
  have h1 := (byteAt m (i + 1)).isLt
  have h2 := (byteAt m (i + 2)).isLt
  simp only [threeBytes, threeBytesAt, twoBytesAt, oneByte, List.cons.injEq, and_true]
  refine ⟨?_, ?_, ?_⟩ <;> bv_omega

theorem goodFlags_iff (b : Byte) : goodFlags b = true ↔ b = 0#8 ∨ b = 1#8 := by
  simp [goodFlags]

theorem oneByte_bit_of_goodFlags {b : Byte} (h : goodFlags b = true) : oneByte (bit (b == 1#8)) = b := by
  obtain rfl | rfl := (goodFlags_iff b).mp h <;> rfl

/-! ## From the request to its bytes and back (R183) -/

theorem decodeMessage_read {a : Nat} (h : a < 16777216) (slot tag start length : Byte) :
    decodeMessage (Request.read slot tag a start length).bytes = .ok (.read slot tag a start length) := by
  have hread : decodeMessage (Request.read slot tag a start length).bytes = .ok (.read slot tag
      ((oneByte a).toNat + 256 * (oneByte (a / 256)).toNat + 65536 * (oneByte (a / 65536)).toNat) start length) := rfl
  rw [hread, oneByte_add_256_add_65536 h]

theorem decodeMessage_write {a : Nat} (h : a < 16777216) (slot tag : Byte) {data : List Byte}
    (hdata : data.length = 64) :
    decodeMessage (Request.write slot tag a data).bytes = .ok (.write slot tag a data) := by
  have hlength : (Request.write slot tag a data).bytes.length = 70 := congrArg (· + 6) hdata
  have hread : readRequest .write (Request.write slot tag a data).bytes = .write slot tag
      ((oneByte a).toNat + 256 * (oneByte (a / 256)).toNat + 65536 * (oneByte (a / 65536)).toNat) data := rfl
  rw [oneByte_add_256_add_65536 h] at hread
  exact decodeMessage_eq_ok_iff.mpr ⟨.write, rfl, hlength, rfl, hread⟩

theorem decodeMessage_merge {a : Nat} (h : a < 16777216) (slot tag : Byte) {mask data : List Byte}
    (hmask : mask.length = 8) (hdata : data.length = 64) :
    decodeMessage (Request.merge slot tag a mask data).bytes = .ok (.merge slot tag a mask data) := by
  have hlength : (Request.merge slot tag a mask data).bytes.length = 78 := by
    simp [Request.bytes, threeBytes, hmask, hdata]
  have hread : readRequest .merge (Request.merge slot tag a mask data).bytes = .merge slot tag
      ((oneByte a).toNat + 256 * (oneByte (a / 256)).toNat + 65536 * (oneByte (a / 65536)).toNat)
      ((mask ++ data).take 8) ((mask ++ data).drop 8) := rfl
  rw [oneByte_add_256_add_65536 h, List.take_left' hmask, List.drop_left' hmask] at hread
  exact decodeMessage_eq_ok_iff.mpr ⟨.merge, rfl, hlength, rfl, hread⟩

/-- Every request that fits its layout is read back from its bytes. -/
theorem decodeMessage_bytes {r : Request} (h : r.wellFormed = true) : decodeMessage r.bytes = .ok r := by
  cases r with
  | read slot tag a start length => exact decodeMessage_read (of_decide_eq_true h) slot tag start length
  | write slot tag a data =>
    obtain ⟨ha, hdata⟩ := Bool.and_eq_true_iff.mp h
    exact decodeMessage_write (of_decide_eq_true ha) slot tag (beq_iff_eq.mp hdata)
  | merge slot tag a mask data =>
    obtain ⟨hfields, hdata⟩ := Bool.and_eq_true_iff.mp h
    obtain ⟨ha, hmask⟩ := Bool.and_eq_true_iff.mp hfields
    exact decodeMessage_merge (of_decide_eq_true ha) slot tag (beq_iff_eq.mp hmask) (beq_iff_eq.mp hdata)
  | close slot discard => exact decodeMessage_close slot discard
  | setProfile record => exact decodeMessage_setProfile h
  | getStatus clear => exact decodeMessage_getStatus clear
  | getTable code lane => exact decodeMessage_getTable h
  | forget lane page line => exact decodeMessage_forget (of_decide_eq_true h) lane line
  | fence | openSession | getProfile | rest | wake | forgetAll => rfl

/-! ## From the message to its request and back (R183, R184) -/

/-- The two reserved bytes behind the kind byte. -/
theorem reserved_eq_zero {a b : Byte} (h : (a == 0#8 && b == 0#8) = true) : a = 0#8 ∧ b = 0#8 := by
  simpa using h

/-- The 72 bytes behind a MERGE's address are its mask and its data. -/
theorem bytes_readRequest_merge {m : List Byte} (hcode : byteAt m 0 = 0x03#8) (hlength : m.length = 78) :
    (readRequest .merge m).wellFormed = true ∧ (readRequest .merge m).bytes = m := by
  match m, hlength with
  | c :: slot :: tag :: a0 :: a1 :: a2 :: rest, hlength =>
    have hrest : rest.length = 72 := Nat.add_right_cancel (m := 6) hlength
    have hmask : (rest.take 8).length = 8 := by simp [hrest]
    have hdata : (rest.drop 8).length = 64 := by simp [hrest]
    obtain rfl : c = 0x03#8 := hcode
    refine ⟨Bool.and_eq_true_iff.mpr ⟨Bool.and_eq_true_iff.mpr
      ⟨decide_eq_true (threeBytesAt_lt _ 3), beq_iff_eq.mpr hmask⟩, beq_iff_eq.mpr hdata⟩, ?_⟩
    rw [readRequest, Request.bytes, threeBytes_threeBytesAt]
    exact congrArg ([0x03#8, slot, tag, a0, a1, a2] ++ ·) (List.take_append_drop 8 rest)

/-- FORGET has one layout for its two scopes: 0 names a location, 1 none (R183). -/
theorem bytes_readRequest_forget {m : List Byte} (hcode : byteAt m 0 = 0x42#8) (hlength : m.length = 8)
    (hreserved : reservedClear .forget m = true) :
    (readRequest .forget m).wellFormed = true ∧ (readRequest .forget m).bytes = m := by
  obtain ⟨hheader, hlocation⟩ := Bool.and_eq_true_iff.mp hreserved
  obtain ⟨hzero, hscope⟩ := Bool.and_eq_true_iff.mp hheader
  match m, hlength with
  | [c, b1, b2, scope, lane, low, high, line], _ =>
    obtain rfl : c = 0x42#8 := hcode
    obtain ⟨rfl, rfl⟩ : b1 = 0#8 ∧ b2 = 0#8 := reserved_eq_zero hzero
    obtain rfl | rfl : scope = 0#8 ∨ scope = 1#8 := (goodFlags_iff scope).mp hscope
    · refine ⟨decide_eq_true (twoBytesAt_lt _ 5), ?_⟩
      exact congrArg (fun page => [0x42#8, 0#8, 0#8, 0#8, lane] ++ page ++ [line]) (twoBytes_twoBytesAt _ 5)
    · obtain ⟨rfl, rfl, rfl, rfl⟩ : lane = 0#8 ∧ low = 0#8 ∧ high = 0#8 ∧ line = 0#8 := by
        simpa [byteAt, and_assoc] using hlocation
      exact ⟨rfl, rfl⟩

/-- A message that passes the three tests is the bytes of the request read from it, whose fields fit. -/
theorem bytes_readRequest {m : List Byte} {k : RequestKind} (hcode : byteAt m 0 = k.code) (hlength : m.length = k.length)
    (hreserved : reservedClear k m = true) :
    (readRequest k m).wellFormed = true ∧ (readRequest k m).bytes = m := by
  cases k with
  | read =>
    refine ⟨decide_eq_true (threeBytesAt_lt m 3), ?_⟩
    rw [readRequest, Request.bytes, threeBytes_threeBytesAt]
    match m, hlength with
    | [_, _, _, _, _, _, _, _], _ => exact congrArg (· :: _) hcode.symm
  | write =>
    match m, hlength with
    | _ :: _ :: _ :: _ :: _ :: _ :: data, hlength =>
      have hdata : data.length = 64 := Nat.add_right_cancel (m := 6) hlength
      refine ⟨Bool.and_eq_true_iff.mpr ⟨decide_eq_true (threeBytesAt_lt _ 3), beq_iff_eq.mpr hdata⟩, ?_⟩
      rw [readRequest, Request.bytes, threeBytes_threeBytesAt]
      exact congrArg (· :: _) hcode.symm
  | merge => exact bytes_readRequest_merge hcode hlength
  | fence =>
    match m, hlength with
    | [_, _, _], _ => exact ⟨rfl, congrArg (· :: _) hcode.symm⟩
  | openSession =>
    match m, hlength with
    | [c, b1, b2, window, order], _ =>
      obtain rfl : c = 0x10#8 := hcode
      obtain ⟨rfl, rfl⟩ : b1 = 0#8 ∧ b2 = 0#8 := reserved_eq_zero hreserved
      exact ⟨rfl, rfl⟩
  | close =>
    match m, hlength with
    | [c, slot, b2, flags], _ =>
      obtain ⟨hzero, hflags⟩ := Bool.and_eq_true_iff.mp hreserved
      obtain rfl : c = 0x11#8 := hcode
      obtain rfl : b2 = 0#8 := beq_iff_eq.mp hzero
      exact ⟨rfl, congrArg (fun b => [0x11#8, slot, 0#8, b]) (oneByte_bit_of_goodFlags hflags)⟩
  | setProfile =>
    match m, hlength with
    | c :: b1 :: b2 :: record, hlength =>
      have hrecord : record.length = 11 := Nat.add_right_cancel (m := 3) hlength
      obtain ⟨hzero, hmask⟩ := Bool.and_eq_true_iff.mp hreserved
      obtain rfl : c = 0x20#8 := hcode
      obtain ⟨rfl, rfl⟩ : b1 = 0#8 ∧ b2 = 0#8 := reserved_eq_zero hzero
      exact ⟨Bool.and_eq_true_iff.mpr ⟨beq_iff_eq.mpr hrecord, hmask⟩, rfl⟩
  | getProfile | rest | wake =>
    match m, hlength with
    | [c, b1, b2], _ =>
      obtain ⟨rfl, rfl⟩ : b1 = 0#8 ∧ b2 = 0#8 := reserved_eq_zero hreserved
      exact ⟨rfl, congrArg (· :: _) hcode.symm⟩
  | getStatus =>
    match m, hlength with
    | [c, b1, b2, flags], _ =>
      obtain ⟨hzero, hflags⟩ := Bool.and_eq_true_iff.mp hreserved
      obtain rfl : c = 0x40#8 := hcode
      obtain ⟨rfl, rfl⟩ : b1 = 0#8 ∧ b2 = 0#8 := reserved_eq_zero hzero
      exact ⟨rfl, congrArg (fun b => [0x40#8, 0#8, 0#8, b]) (oneByte_bit_of_goodFlags hflags)⟩
  | getTable =>
    match m, hlength with
    | [c, b1, b2, code, lane], _ =>
      obtain ⟨hzero, hlane⟩ := Bool.and_eq_true_iff.mp hreserved
      obtain rfl : c = 0x41#8 := hcode
      obtain ⟨rfl, rfl⟩ : b1 = 0#8 ∧ b2 = 0#8 := reserved_eq_zero hzero
      exact ⟨hlane, rfl⟩
  | forget => exact bytes_readRequest_forget hcode hlength hreserved

/-- Settles O11: each kind's fields are read where its layout puts them, and the reserved bytes are the zeros it has. -/
theorem requestMessagesDecodeToWhatTheyCarry : Obligations.RequestMessagesDecodeToWhatTheyCarry := by
  refine ⟨fun _ => decodeMessage_bytes, fun m r h => ?_⟩
  obtain ⟨k, hcode, hlength, hreserved, rfl⟩ := decodeMessage_eq_ok_iff.mp h
  exact bytes_readRequest hcode hlength hreserved

/-! ## Malformed messages (R184) -/

theorem rowOf_of_no_kind {m : List Byte} (hm : m ≠ []) (h : requestKind (byteAt m 0) = none) :
    rowOf m = .unknownKind := by
  obtain ⟨code, rest, rfl⟩ := List.exists_cons_of_ne_nil hm
  have hnone : requestKind code = none := h
  rw [rowOf, hnone]

/-- The command of every row of requests is an event in which INT takes a message of that row (R114). -/
theorem exec_command_of_row (row : RequestRow) :
    ∃ owner : Request → State → State, ∀ s : State, exec row.command s = event (intTakes row owner) s := by
  cases row <;> exact ⟨_, fun _ => rfl⟩

/-- A message that fails decoding is refused with its bytes 1 and 2, whatever its row (log entry 9). -/
theorem exec_of_bad {m : List Byte} {s : State} (hs : s.settled) (hhead : s.intHead = some m) {row : RequestRow}
    (hrow : rowOf m = row) {reason : Reason} (hbad : decodeMessage m = .bad reason) :
    exec row.command s = .next (refuse (byteAt m 1) (byteAt m 2) reason s) := by
  obtain ⟨owner, hexec⟩ := exec_command_of_row row
  rw [hexec, event_intTakes hs hhead hrow, hbad]
  exact congrArg _ (kick_refuse hs _ _ _)

/-- Settles O12: each failed test gives its reason, and the refusal leaves the rest of a settled state as it is. -/
theorem malformedMessagesAreRefused : Obligations.MalformedMessagesAreRefused := by
  intro m s hs hhead
  refine ⟨fun hempty => ?_, fun hm hnone => ?_, fun k hm hcode => ⟨fun hlength => ?_, fun hlength hreserved => ?_⟩⟩
  · subst hempty
    exact exec_of_bad hs hhead (row := .unknownKind) rfl rfl
  · exact exec_of_bad hs hhead (rowOf_of_no_kind hm hnone) (decodeMessage_of_no_kind hm hnone)
  · refine exec_of_bad hs hhead rfl ?_
    rw [decodeMessage_of_kind hm hcode, if_pos hlength]
  · refine exec_of_bad hs hhead rfl ?_
    rw [decodeMessage_of_kind hm hcode, if_neg (not_not.mpr hlength), if_neg (Bool.eq_false_iff.mp hreserved)]

end Sys2Proof.Machine
end

section
/-!
PROOFS. Which frame INT can take, and that no other request command does anything (O28).
-/
namespace Sys2Proof.Machine

/-! ## INT is free (R114, R134) -/

theorem State.intBusy_eq_false_iff (s : State) :
    s.intBusy = false ↔ (∀ w ∈ s.waiting, ∀ r : Message, w ≠ .int r) ∧ s.prf.processing = none := by
  have hint (w : Waiting) : w.ofInt = true ↔ ∃ r : Message, w = .int r := by
    cases w <;> simp [Waiting.ofInt]
  simp only [State.intBusy, Bool.or_eq_false_iff, List.any_eq_false, hint, not_exists, Option.isSome_eq_false_iff,
    Option.isNone_iff_eq_none, ne_eq]

theorem State.intHead_eq_some_iff (s : State) (m : List Byte) : s.intHead = some m ↔
    (s.running = true ∧ s.intBusy = false) ∧ ∃ rest : List (List Byte), s.link.intake = m :: rest := by
  rw [State.intHead, Option.ite_none_right_eq_some, List.head?_eq_some_iff, Bool.and_eq_true, Bool.not_eq_true']

/-! ## INT takes nothing (log entries 4 and 10) -/

theorem intTakes_of_other_row {s : State} {row : RequestRow} (h : ∀ m : List Byte, s.intHead = some m → rowOf m ≠ row)
    (owner : Request → State → State) : intTakes row owner s = s := by
  unfold intTakes
  split
  · rfl
  · next m hm => exact if_neg (h m hm)

/-- Settles O28: INT's head by its two tests, and a row that INT cannot take by `intTakes`. -/
theorem intTakesOneFrameAtATime : Obligations.IntTakesOneFrameAtATime := by
  refine ⟨fun s m => ?_, fun row s hs hother => ?_⟩
  · rw [s.intHead_eq_some_iff, s.intBusy_eq_false_iff, and_assoc, and_assoc]
  · obtain ⟨owner, hexec⟩ := exec_command_of_row row
    rw [hexec, event_of_settled hs, intTakes_of_other_row hother, hs.1]

end Sys2Proof.Machine
end

section
/-!
PROOFS. The words of a DATA reply (O7).
-/
namespace Sys2Proof.Machine

/-! ## The order of the words (R120) -/

theorem replyWord_zero (order : WordOrder) (k : Fin 16) (length : ReadLength) : replyWord order k length 0 = k.val := by
  have hlt := k.isLt
  cases order with
  | interleaved => exact Nat.xor_zero k.val
  | sequential => cases length <;> simp only [replyWord] <;> omega

/-- A FULL reply runs once through the 16 words of the line. -/
theorem replyWord_full_perm (order : WordOrder) :
    ∀ k : Fin 16, ((List.range 16).map (replyWord order k .full)).Perm (List.range 16) := by
  cases order <;> decide +kernel

/-- A SHORT reply runs once through the 8 words of the half that holds the start word. -/
theorem replyWord_short_perm (order : WordOrder) :
    ∀ k : Fin 16, ((List.range 8).map (replyWord order k .short)).Perm ((List.range 8).map (8 * (k.val / 8) + ·)) := by
  cases order <;> decide +kernel

theorem count_replyWord_full (order : WordOrder) (k : Fin 16) (w : Nat) :
    ((List.range 16).map (replyWord order k .full)).count w = if w < 16 then 1 else 0 := by
  rw [(replyWord_full_perm order k).count_eq, List.nodup_range.count]
  simp only [List.mem_range]

theorem count_replyWord_short (order : WordOrder) (k : Fin 16) (w : Nat) :
    ((List.range 8).map (replyWord order k .short)).count w = if w / 8 = k.val / 8 then 1 else 0 := by
  have hnodup : ((List.range 8).map (8 * (k.val / 8) + ·)).Nodup :=
    List.nodup_range.map (add_right_injective (8 * (k.val / 8)))
  have hmem : w ∈ (List.range 8).map (8 * (k.val / 8) + ·) ↔ w / 8 = k.val / 8 := by
    rw [List.mem_map]
    constructor
    · rintro ⟨i, hi, rfl⟩
      have := List.mem_range.mp hi
      omega
    · intro h
      exact ⟨w % 8, List.mem_range.mpr (Nat.mod_lt w (by decide)), by omega⟩
  rw [(replyWord_short_perm order k).count_eq, hnodup.count]
  simp only [hmem]

/-! ## The words carried (R1, R120, R183) -/

theorem replyWords_length (order : WordOrder) (k : Fin 16) (length : ReadLength) (buffer : List Byte) :
    (replyWords order k length buffer).length = length.words := by
  rw [replyWords, List.length_map, List.length_range]

theorem getElem?_replyWords (order : WordOrder) (k : Fin 16) (length : ReadLength) (buffer : List Byte) {i : Nat}
    (h : i < length.words) :
    (replyWords order k length buffer)[i]? = some (lineWord buffer (replyWord order k length i)) := by
  rw [replyWords, List.getElem?_map, List.getElem?_range h, Option.map_some]

theorem ReadLength.words_pos (length : ReadLength) : 0 < length.words := by
  cases length <;> decide

/-- A word in one piece is its four bytes, the least significant first. -/
theorem wordBytes_append (b0 b1 b2 b3 : Byte) : wordBytes (b3 ++ b2 ++ b1 ++ b0) = [b0, b1, b2, b3] := by
  have h1 : (b3 ++ b2 ++ b1 ++ b0).extractLsb' 8 8 = (b3 ++ b2 ++ b1).extractLsb' 0 8 :=
    BitVec.extractLsb'_append_eq_of_le (by decide)
  have h2 : (b3 ++ b2 ++ b1 ++ b0).extractLsb' 16 8 = (b3 ++ b2 ++ b1).extractLsb' 8 8 :=
    BitVec.extractLsb'_append_eq_of_le (by decide)
  have h3 : (b3 ++ b2 ++ b1 ++ b0).extractLsb' 24 8 = (b3 ++ b2 ++ b1).extractLsb' 16 8 :=
    BitVec.extractLsb'_append_eq_of_le (by decide)
  have h2' : (b3 ++ b2 ++ b1).extractLsb' 8 8 = (b3 ++ b2).extractLsb' 0 8 :=
    BitVec.extractLsb'_append_eq_of_le (by decide)
  have h3' : (b3 ++ b2 ++ b1).extractLsb' 16 8 = (b3 ++ b2).extractLsb' 8 8 :=
    BitVec.extractLsb'_append_eq_of_le (by decide)
  rw [wordBytes, h1, h2, h3, h2', h3']
  simp only [BitVec.extractLsb'_append_eq_right, BitVec.extractLsb'_append_eq_left]

theorem entryReply_of_read {e : Entry} {address : Nat} {k : Fin 16} {length : ReadLength}
    (h : e.kind = .read address k length) (order : WordOrder) :
    entryReply order e = .data e.key (e.outcome.getD .ok) k length
      (if e.outcome.getD .ok = .lost then [] else replyWords order k length (e.buffer.getD [])) := by
  rw [entryReply, h]

theorem outcome_getD_eq_lost_iff (o : Option Status) : o.getD .ok = .lost ↔ o = some .lost := by
  cases o <;> simp

/-- The grant to the candidate changes the link by the reply that it places. -/
theorem grantEntry_outbound {s : State} {e : Entry} (h : s.candidate = some e) :
    (grantEntry s).link.outbound = s.link.outbound ++ [entryReply s.wordOrder e] := by
  rw [grantEntry_of_candidate h, freeEntry_eq]
  exact enqueue_outbound ..

theorem State.wordOrder_of_active {s : State} {p : Profile} (h : s.prf.active = some p) : s.wordOrder = p.wordOrder := by
  rw [State.wordOrder, h, Option.map_some, Option.getD_some]

/-- Settles O7: the reply's words by `replyWords`, their numbers by `replyWord`, and the grant that builds the reply. -/
theorem readReplyWordOrder : Obligations.ReadReplyWordOrder := by
  refine ⟨fun order e address k length hkind => ?_,
    fun order k w => ⟨count_replyWord_full order k w, count_replyWord_short order k w⟩,
    fun buffer w => wordBytes_append .., fun s e p hcandidate hactive => ?_⟩
  · refine ⟨_, entryReply_of_read hkind order, fun hlost => ?_, fun buffer hbuffer hkept => ?_⟩
    · rw [if_pos ((outcome_getD_eq_lost_iff _).mpr hlost)]
    · rw [if_neg ((outcome_getD_eq_lost_iff _).not.mpr hkept), hbuffer, Option.getD_some]
      refine ⟨?_, ?_, fun i hi => ?_⟩
      · rw [replyWords_length]
        cases length <;> rfl
      · rw [getElem?_replyWords _ _ _ _ length.words_pos, replyWord_zero]
      · rw [replyWords_length] at hi
        rw [getElem?_replyWords _ _ _ _ hi]
        cases order <;> cases length <;> rfl
  · rw [grantEntry_outbound hcandidate, State.wordOrder_of_active hactive]

end Sys2Proof.Machine
end

section
/-!
PROOFS. How INT takes a data request, and the refusals by the first check of R115 that fails (O30).
-/
namespace Sys2Proof.Machine

/-! ## A data request is taken (R114, R115) -/

theorem event_intTakes_bytes {s : State} {r : Request} {row : RequestRow} (hs : s.settled) (hr : r.wellFormed = true)
    (hhead : s.intHead = some r.bytes) (hrow : rowOf r.bytes = row) (owner : Request → State → State) :
    event (intTakes row owner) s = .next (kick (owner r s)) := by
  rw [event_intTakes hs hhead hrow, decodeMessage_bytes hr]

/-- Checks 5 and 6 of R115 for a data request: the kind with its fields, or the refusal. -/
def Request.dataKind : Request → Except Reason EntryKind
  | .read _ _ a start length => readKind a start length
  | .write _ _ a data => writeKind a data
  | .merge _ _ a mask data => mergeKind a mask data
  | _ => .ok .fence

section
variable {r : Request} {slot tag : Byte} {address : Option Nat} {badField : Bool}

/-- The four commands of data requests have one meaning. -/
theorem exec_dataRequest {s : State} (hs : s.settled) (hr : r.wellFormed = true)
    (hfields : r.dataFields = some (slot, tag, address, badField)) (hhead : s.intHead = some r.bytes) :
    exec (rowOf r.bytes).command s = .next (kick (dataRequest slot tag r.dataKind s)) := by
  cases r with
  | read | write | merge | fence =>
    cases hfields
    exact event_intTakes_bytes hs hr hhead rfl _
  | _ => exact nomatch hfields

/-! ## The checks of the address and the fields (R115, checks 5 and 6) -/

/-- A length code names no length exactly when it is above 1 (section 12.5). -/
theorem readLengthOf_eq_none_iff (b : Byte) : readLengthOf b = none ↔ 1 < b.toNat := by
  have hzero : b = 0#8 ↔ b.toNat = 0 := BitVec.toNat_inj.symm
  have hone : b = 1#8 ↔ b.toNat = 1 := BitVec.toNat_inj.symm
  simp only [readLengthOf, hzero, hone]
  split
  · next h => simp [h]
  · split
    · next h => simp [h]
    · exact iff_of_true rfl (by omega)

theorem dataKind_of_bad_address (hfields : r.dataFields = some (slot, tag, address, badField)) {a : Nat}
    (ha : address = some a) (hbad : 4194304 ≤ a) : r.dataKind = .error .badAddress := by
  subst ha
  cases r with
  | read | write | merge =>
    cases hfields
    exact if_pos hbad
  | _ => exact nomatch hfields

theorem readKind_of_bad_field {a : Nat} (ha : a < 4194304) {start length : Byte}
    (hbad : 15 < start.toNat ∨ 1 < length.toNat) : readKind a start length = .error .badField := by
  rw [readKind, if_neg (Nat.not_le.mpr ha)]
  split
  · rfl
  · next hstart => rw [(readLengthOf_eq_none_iff length).mpr (hbad.resolve_left hstart)]

theorem dataKind_of_bad_field (hfields : r.dataFields = some (slot, tag, address, true))
    (ha : ∀ a : Nat, address = some a → a < 4194304) : r.dataKind = .error .badField := by
  cases r with
  | read _ _ a start length =>
    simp only [Request.dataFields, Option.some.injEq, Prod.mk.injEq, Bool.or_eq_true, decide_eq_true_eq] at hfields
    obtain ⟨-, -, haddress, hbad⟩ := hfields
    exact readKind_of_bad_field (ha a haddress.symm) hbad
  | merge _ _ a mask data =>
    simp only [Request.dataFields, Option.some.injEq, Prod.mk.injEq] at hfields
    obtain ⟨-, -, haddress, hbad⟩ := hfields
    rw [Request.dataKind, mergeKind, if_neg (Nat.not_le.mpr (ha a haddress.symm)), if_pos hbad]
  | _ => exact nomatch hfields

end

/-! ## The checks before them (R115, checks 1 to 4) -/

theorem deviceRefusal_of_resting {d : Device} (hd : d ∈ [.resting, .retained, .waking]) :
    deviceRefusal d = some .resting := by
  revert hd
  cases d <;> decide

section
variable {s : State} {slot tag : Byte}

theorem dataChecks_of_deviceRefusal {r : Reason} (h : deviceRefusal s.stc.device = some r) :
    dataChecks s slot tag = .error r := by
  rw [dataChecks, h]

theorem dataChecks_of_dataSlot (hd : s.stc.device = .ready) {r : Reason} (h : dataSlot s slot = .error r) :
    dataChecks s slot tag = .error r := by
  simp only [dataChecks, deviceRefusal, hd, h]

theorem dataSlot_of_no_slot (h : slot.toNat = 0 ∨ 4 < slot.toNat) : dataSlot s slot = .error .noSession := by
  rw [dataSlot, slotOf_eq_none h]

variable {k : SlotId}

theorem dataSlot_of_free_or_detached (h : (s.slot k).state = .free ∨ (s.slot k).state = .detached) :
    dataSlot s (slotByte k) = .error .noSession := by
  rcases h with h | h <;> simp only [dataSlot, slotOf_slotByte, h]

theorem dataSlot_of_closing (h : (s.slot k).state = .closing) : dataSlot s (slotByte k) = .error .closing := by
  simp only [dataSlot, slotOf_slotByte, h]

theorem dataSlot_of_opened (h : (s.slot k).state = .opened) : dataSlot s (slotByte k) = .ok k := by
  simp only [dataSlot, slotOf_slotByte, h]

theorem dataChecks_of_opened (hd : s.stc.device = .ready) (h : (s.slot k).state = .opened) :
    dataChecks s (slotByte k) tag =
      if (s.slot k).window ≤ s.entryCount k then .error .windowFull
      else if s.tagInUse k tag then .error .duplicateTag
      else .ok k := by
  simp only [dataChecks, deviceRefusal, hd, dataSlot_of_opened h]

/-- A data request for an OPEN slot with room and with a new tag passes the first four checks. -/
theorem dataChecks_of_passed (hd : s.stc.device = .ready) (hopen : (s.slot k).state = .opened)
    (hroom : s.entryCount k < (s.slot k).window) (htag : s.tagInUse k tag = false) :
    dataChecks s (slotByte k) tag = .ok k := by
  rw [dataChecks_of_opened hd hopen, if_neg (Nat.not_le.mpr hroom), if_neg (Bool.eq_false_iff.mp htag)]

variable {kind : Except Reason EntryKind} {r : Reason}

theorem dataRequest_of_dataChecks (h : dataChecks s slot tag = .error r) :
    dataRequest slot tag kind s = refuse slot tag r s := by
  rw [dataRequest, h]

theorem dataRequest_of_kind (h : dataChecks s slot tag = .ok k) (hkind : kind = .error r) :
    dataRequest slot tag kind s = refuse slot tag r s := by
  rw [dataRequest, h, hkind]

end

/-- Settles O30: the checks of R115 in their order, each by its equation of `dataChecks` or `dataKind`. -/
theorem dataRequestRefusedByTheFirstCheckThatFails : Obligations.DataRequestRefusedByTheFirstCheckThatFails := by
  intro r slot tag address badField s hs hr hfields hhead refused
  have hrefused {reason : Reason} (h : dataRequest slot tag r.dataKind s = refuse slot tag reason s) :
      refused reason := by
    refine (exec_dataRequest hs hr hfields hhead).trans ?_
    rw [h, kick_refuse hs]
    rfl
  have hcheck {reason : Reason} (h : dataChecks s slot tag = .error reason) : refused reason :=
    hrefused (dataRequest_of_dataChecks h)
  refine ⟨fun hd => hcheck (dataChecks_of_deviceRefusal (hd ▸ rfl)),
    fun hd => hcheck (dataChecks_of_deviceRefusal (hd ▸ rfl)),
    fun hd => hcheck (dataChecks_of_deviceRefusal (deviceRefusal_of_resting hd)), fun hd => ⟨fun hslot => ?_, ?_⟩⟩
  · exact hcheck (dataChecks_of_dataSlot hd (dataSlot_of_no_slot hslot))
  rintro k rfl
  refine ⟨fun hgone => hcheck (dataChecks_of_dataSlot hd (dataSlot_of_free_or_detached hgone)),
    fun hclosing => hcheck (dataChecks_of_dataSlot hd (dataSlot_of_closing hclosing)),
    fun hopen => ⟨fun hfull => ?_, fun hroom => ⟨fun htag => ?_, fun htag => ?_⟩⟩⟩
  · exact hcheck (by rw [dataChecks_of_opened hd hopen, if_pos hfull])
  · exact hcheck (by rw [dataChecks_of_opened hd hopen, if_neg (Nat.not_le.mpr hroom), if_pos htag])
  · have hpassed := dataChecks_of_passed hd hopen hroom htag
    refine ⟨fun a ha hbad => hrefused (dataRequest_of_kind hpassed (dataKind_of_bad_address hfields ha hbad)), ?_⟩
    rintro ha rfl
    exact hrefused (dataRequest_of_kind hpassed (dataKind_of_bad_field hfields ha))

end Sys2Proof.Machine
end

section
/-!
PROOFS. READ, WRITE, MERGE and FENCE accepted: the youngest entry of the table, the FENCE that completes at once, and
the lane that decides (O29).
-/
namespace Sys2Proof.Machine

/-! ## The request of an entry's kind is accepted (R113, R115) -/

section
variable {kind : EntryKind} {slot tag : Byte}

theorem wellFormed_request (h : kind.acceptable = true) : (kind.request slot tag).wellFormed = true := by
  cases kind with
  | read a start length =>
    exact decide_eq_true ((of_decide_eq_true h).trans (by decide))
  | write a data =>
    obtain ⟨ha, hdata⟩ := Bool.and_eq_true_iff.mp h
    exact Bool.and_eq_true_iff.mpr ⟨decide_eq_true ((of_decide_eq_true ha).trans (by decide)), hdata⟩
  | merge a mask data =>
    simp only [EntryKind.acceptable, Bool.and_eq_true, decide_eq_true_eq] at h
    obtain ⟨⟨⟨ha, hmask⟩, hdata⟩, -⟩ := h
    simp only [EntryKind.request, Request.wellFormed, Bool.and_eq_true, decide_eq_true_eq]
    exact ⟨⟨ha.trans (by decide), hmask⟩, hdata⟩
  | fence => rfl

theorem readLengthOf_code (length : ReadLength) : readLengthOf length.code = some length := by
  cases length <;> rfl

theorem oneByte_fin (k : Fin 16) : (oneByte k.val).toNat = k.val := by
  rw [oneByte, BitVec.toNat_ofNat]
  exact Nat.mod_eq_of_lt (k.isLt.trans (by decide))

/-- Fields that are acceptable pass checks 5 and 6 of R115 and give the kind back. -/
theorem dataKind_request (h : kind.acceptable = true) : (kind.request slot tag).dataKind = .ok kind := by
  cases kind with
  | read a start length =>
    have ha : ¬ 4194304 ≤ a := Nat.not_le.mpr (of_decide_eq_true h)
    have hstart : ¬ 15 < start.val := by omega
    simp only [EntryKind.request, Request.dataKind, readKind, oneByte_fin, if_neg ha, if_neg hstart, readLengthOf_code,
      Fin.ofNat_val_eq_self]
  | write a data =>
    obtain ⟨ha, -⟩ := Bool.and_eq_true_iff.mp h
    exact if_neg (Nat.not_le.mpr (of_decide_eq_true ha))
  | merge a mask data =>
    obtain ⟨hfields, hmask⟩ := Bool.and_eq_true_iff.mp h
    obtain ⟨hlengths, -⟩ := Bool.and_eq_true_iff.mp hfields
    obtain ⟨ha, -⟩ := Bool.and_eq_true_iff.mp hlengths
    have hzero : ¬ mask.all (fun b => b == 0#8) = true := by
      rw [List.all_eq_not_any_not]
      simpa [bne] using hmask
    rw [EntryKind.request, Request.dataKind, mergeKind, if_neg (Nat.not_le.mpr (of_decide_eq_true ha)), if_neg hzero]
  | fence => rfl

theorem dataFields_request (kind : EntryKind) (slot tag : Byte) :
    ∃ badField : Bool, (kind.request slot tag).dataFields = some (slot, tag, kind.address, badField) := by
  cases kind <;> exact ⟨_, rfl⟩

theorem command_rowOf_request (kind : EntryKind) (slot tag : Byte) :
    (rowOf (kind.request slot tag).bytes).command = kind.command := by
  cases kind <;> rfl

end

/-- A request that passes every check of R115 becomes an entry (R118). -/
theorem exec_of_accepted {kind : EntryKind} {k : SlotId} {tag : Byte} {s : State} (hs : s.settled)
    (hhead : s.intHead = some (kind.request (slotByte k) tag).bytes) (hkind : kind.acceptable = true)
    (hd : s.stc.device = .ready) (hopen : (s.slot k).state = .opened) (hroom : s.entryCount k < (s.slot k).window)
    (htag : s.tagInUse k tag = false) :
    exec kind.command s = .next (kick (acceptEntry { slot := k, tag := tag } kind s)) := by
  obtain ⟨badField, hfields⟩ := dataFields_request kind (slotByte k) tag
  have hexec := exec_dataRequest hs (wellFormed_request hkind) hfields hhead
  rw [command_rowOf_request] at hexec
  rw [hexec, dataRequest, dataChecks_of_passed hd hopen hroom htag, dataKind_request hkind]

/-! ## The youngest entry and the lanes (R25, R27, R43, R48) -/

theorem eligibleFrom_append (a : LaneId) (younger : List Entry) : ∀ es older : List Entry,
    eligibleFrom a older (es ++ younger) = eligibleFrom a older es ++ eligibleFrom a (es.reverse ++ older) younger
  | [], _ => rfl
  | e :: es, older => by
    have ih := eligibleFrom_append a younger es (e :: older)
    rw [List.reverse_cons, List.append_assoc, List.singleton_append]
    simp only [List.cons_append, eligibleFrom, ih]
    split <;> rfl

section
variable {s t : State} {e : Entry}

/-- An entry that joins the table is told to the lanes whose queue it joins; it unblocks nothing (R27, R48). -/
theorem toldOf_append (ht : t.table = s.table ++ [e]) (a : LaneId) : toldOf s t a = e.inQueue a := by
  have hqueue : t.laneQueue a = s.laneQueue a ++ [e].filter (fun x => x.inQueue a) := by
    rw [State.laneQueue, ht, List.filter_append]
    rfl
  cases hjoins : e.inQueue a with
  | true =>
    refine (toldOf_iff s t a).mpr (Or.inl ?_)
    simp [hqueue, hjoins]
  | false =>
    have hsame : t.laneQueue a = s.laneQueue a := by simp [hqueue, hjoins]
    have heligible : t.eligible a = s.eligible a := by
      rw [State.eligible, ht, eligibleFrom_append]
      simp [eligibleFrom, hjoins, State.eligible]
    rw [← Bool.not_eq_true, toldOf_iff, hsame, heligible]
    rintro (hne | ⟨x, hx, hnew⟩)
    · exact hne rfl
    · exact hnew x hx rfl

theorem tellChanged_append (ht : t.table = s.table ++ [e]) : tellChanged s t = tell (allLanes.filter e.inQueue) t := by
  rw [tellChanged, List.filter_congr fun a _ => toldOf_append ht a]

/-- An entry outside the lanes' queues is no lane's business. -/
theorem tellChanged_append_of_idle (ht : t.table = s.table ++ [e]) (h : e.state ≠ .queued ∧ e.state ≠ .active) :
    tellChanged s t = t := by
  have hnone : allLanes.filter e.inQueue = [] := by simp [Entry.inQueue, h]
  rw [tellChanged_append ht, hnone]
  rfl

/-- An entry QUEUED at a location is told to its lane alone. -/
theorem tellChanged_append_of_queued (ht : t.table = s.table ++ [e]) (hst : e.state = .queued) {l : Location}
    (hl : e.location = some l) : tellChanged s t = decideLane t l.lane := by
  have hsingle : ∀ a : LaneId, allLanes.filter (fun b => a == b) = [a] := by decide
  have hone : e.inQueue = fun b => l.lane == b := by
    funext b
    simp [Entry.inQueue, hst, hl]
  rw [tellChanged_append ht, hone, hsingle]
  rfl

end

/-! ## The youngest entry and the FENCEs (R26) -/

/-- When nothing but the youngest entry is checked, it completes or nothing does. -/
theorem completeFencesFrom_append {check : Entry → Bool} (e : Entry) : ∀ {es : List Entry} (older : List Entry),
    (∀ x ∈ es, check x = false) → completeFencesFrom check older (es ++ [e]) =
      if check e = true ∧ fenceDone (es.reverse ++ older) e = true then (es ++ [e.completed], [e.key])
      else (es ++ [e], [])
  | [], older, _ => by
    rw [List.nil_append]
    rcases completeFencesFrom_cons check older e [] with ⟨hdone, h⟩ | ⟨hdone, h⟩
    · exact h.trans (if_pos hdone).symm
    · exact h.trans (if_neg hdone).symm
  | x :: es, older, hnone => by
    obtain ⟨hx, hes⟩ := List.forall_mem_cons.mp hnone
    rw [List.cons_append, List.reverse_cons, List.append_assoc, List.singleton_append]
    rcases completeFencesFrom_cons check older x (es ++ [e]) with ⟨⟨hchecked, -⟩, -⟩ | ⟨-, h⟩
    · exact absurd hchecked (Bool.eq_false_iff.mp hx)
    · rw [h, completeFencesFrom_append e (x :: older) hes]
      split <;> rfl

theorem fenceDone_reverse (older : List Entry) (e : Entry) : fenceDone older.reverse e = fenceDone older e := by
  rw [fenceDone, List.all_reverse, fenceDone]

section
variable {s : State} {key : EntryKey} {kind : EntryKind}

theorem key_ne_of_tag_free (htag : s.tagInUse key.slot key.tag = false) : ∀ x ∈ s.table, (x.key == key) = false := by
  simpa [State.tagInUse] using htag

/-- The check of the youngest entry, which alone has its key. -/
theorem completeFencesFrom_accepted (htag : s.tagInUse key.slot key.tag = false) :
    completeFencesFrom (fun x => x.key == key) [] (s.table ++ [acceptedEntry s key kind]) =
      if fenceDone s.table (acceptedEntry s key kind) = true then
        (s.table ++ [(acceptedEntry s key kind).completed], [key])
      else (s.table ++ [acceptedEntry s key kind], []) := by
  rw [completeFencesFrom_append (acceptedEntry s key kind) [] (key_ne_of_tag_free htag)]
  simp only [acceptedEntry_key, beq_self_eq_true, true_and, List.append_nil, fenceDone_reverse]

/-- An accepted entry that is no FENCE completing at once: the lanes hear of it (R24, R118). -/
theorem acceptEntry_of_not_done (htag : s.tagInUse key.slot key.tag = false)
    (h : ¬ fenceDone s.table (acceptedEntry s key kind) = true) :
    acceptEntry key kind s = tellChanged s (depart { s with table := s.table ++ [acceptedEntry s key kind] }) := by
  have hfences := completeFencesFrom_accepted (kind := kind) htag
  rw [if_neg h] at hfences
  simp only [acceptEntry, completeFences, depart_table, hfences, List.append_nil]
  rfl

/-- A FENCE that completes when it is accepted (R26, R30). -/
theorem acceptEntry_of_done (htag : s.tagInUse key.slot key.tag = false)
    (h : fenceDone s.table (acceptedEntry s key kind) = true) :
    acceptEntry key kind s = depart { s with
      table := s.table ++ [(acceptedEntry s key kind).completed]
      replies := s.replies ++ [key] } := by
  have hfences := completeFencesFrom_accepted (kind := kind) htag
  rw [if_pos h] at hfences
  simp only [acceptEntry, completeFences, depart_table, hfences]
  exact tellChanged_append_of_idle rfl ⟨nofun, nofun⟩

/-! ## The entry by what is staged (R5, R24) -/

theorem acceptedEntry_of_staged (h : s.prf.staged.isSome = true) : acceptedEntry s key kind = Entry.new key kind :=
  if_pos h

theorem acceptedEntry_of_none_staged (h : s.prf.staged = none) :
    acceptedEntry s key kind = releaseEntry s.prf.active (Entry.new key kind) :=
  if_neg (by simp [h])

/-- With no profile staged a READ, WRITE or MERGE has its location at once (R24). -/
theorem acceptedEntry_of_address (h : s.prf.staged = none) {p : Profile} (hp : s.prf.active = some p) {address : Nat}
    (ha : kind.address = some address) : acceptedEntry s key kind =
      { Entry.new key kind with state := .queued, location := some (locate p.map address) } := by
  have ha' : (Entry.new key kind).kind.address = some address := ha
  simp only [acceptedEntry_of_none_staged h, releaseEntry, ha', hp]

/-- With no profile staged a FENCE waits (R24). -/
theorem acceptedEntry_of_fence (h : s.prf.staged = none) :
    acceptedEntry s key .fence = { Entry.new key .fence with state := .fenceWait } :=
  acceptedEntry_of_none_staged h

end

/-- Settles O29: the checks pass, and the entry is held, QUEUED, completed or left waiting. -/
theorem dataRequestAccepted : Obligations.DataRequestAccepted := by
  intro kind k tag s hs hhead hkind hd hopen hroom htag key e
  have hexec := exec_of_accepted hs hhead hkind hd hopen hroom htag
  have htag : s.tagInUse key.slot key.tag = false := htag
  rw [hexec]
  refine ⟨fun hstaged => ?_, fun hnone p address hp ha => ?_, ?_⟩
  · have hheld : acceptedEntry s key kind = e := acceptedEntry_of_staged hstaged
    rw [acceptEntry_of_not_done htag (by simp [hheld, fenceDone_iff, e]), hheld,
      tellChanged_append_of_idle (e := e) rfl ⟨nofun, nofun⟩]
  · have hqueued := acceptedEntry_of_address (key := key) hnone hp ha
    rw [acceptEntry_of_not_done htag (by simp [hqueued, fenceDone_iff]), hqueued,
      tellChanged_append_of_queued rfl rfl rfl]
    rfl
  · rintro hnone rfl
    have hwaits := acceptedEntry_of_fence (key := key) hnone
    have hdone : fenceDone s.table (acceptedEntry s key .fence) = true ↔
        ∀ o ∈ s.table, o.key.slot = k → o.state = .replyWait := by
      simp [hwaits, fenceDone_iff, Entry.new, key]
    refine ⟨fun hended => ?_, fun ⟨o, ho, hslot, hst⟩ => ?_⟩
    · rw [acceptEntry_of_done htag (hdone.mpr hended), hwaits]
      rfl
    · rw [acceptEntry_of_not_done htag fun h => hst (hdone.mp h o ho hslot), hwaits,
        tellChanged_append_of_idle (e := { e with state := .fenceWait }) rfl ⟨nofun, nofun⟩]
      rfl

end Sys2Proof.Machine
end
